-- ==== Sys2Proof/Word.lean ====
section
/-! DEFINITION. The word types of the block: every register and every cipher and hash word is 32 bits wide, and
DMEM is addressed in bytes (spec rules R9, R60). -/
namespace Sys2Proof

/-- A 32-bit register or algorithm word (R9). -/
abbrev Word := BitVec 32

/-- One byte of DMEM or of a byte string (R10, R60). -/
abbrev Byte := BitVec 8

/-- A cipher or HMAC context index as a command word carries it: a zero-extended 4-bit field (R86, R87). -/
abbrev CtxIx := BitVec 4

end Sys2Proof
end

