-- ==== Sys2Proof/Syntax.lean ====
section
/-! DEFINITION. The commands of the block: one constructor for each row of the opcode map (R89), with the fields the
row uses (R86). -/
namespace Sys2Proof

/-- The codec format that the V field selects (R240). -/
inductive Format where
  /-- V = 0: the V1/V2 format with 8-byte blocks. -/
  | v12
  /-- V = 1: the V3 format with 16-byte blocks. -/
  | v3
deriving DecidableEq, Repr

/-- The 31 commands of R89. `c` is the cipher context, `h` the HMAC context, `z` the zero-IV bit, `v` the codec format
and `u` the bit that also updates HMAC context `h`. -/
inductive Instr where
  | nop
  | bfKey (c : CtxIx)
  | tfKey (c : CtxIx)
  | cbcInit (c : CtxIx) (z : Bool)
  | ctxClear (c : CtxIx)
  | bfWeakchk (c : CtxIx)
  | cfbInit (c : CtxIx) (z : Bool)
  | ecbEnc (c : CtxIx)
  | ecbDec (c : CtxIx)
  | cbcEnc (c : CtxIx)
  | cbcDec (c : CtxIx)
  | cfbEnc (c : CtxIx)
  | cfbDec (c : CtxIx)
  | sha256
  | kdf
  | hmacInit (h : CtxIx)
  | hmacUpdate (h : CtxIx)
  | hmacDigest (h : CtxIx)
  | hctxClear (h : CtxIx)
  | blkPad (v : Format) (u : Bool) (h : CtxIx)
  | fieldEnc (v : Format) (u : Bool) (h : CtxIx)
  | fieldDec (v : Format) (u : Bool) (h : CtxIx)
  | fieldCount (v : Format)
  | fieldTerm (v : Format)
  | rngBytes
  | rngByte
  | rngInt
  | rngLong
  | rngBound
  | rngSeed
  | rngCycle
deriving DecidableEq, Repr

/-- Why a command word is not a legal encoding (R88, R90, R91). Every reason ends in the error IllegalCommand. -/
inductive Illegal where
  /-- Bits 31:19 are not all 0. -/
  | reservedBits
  /-- OP is in no row of R89. -/
  | undefinedOpcode
  /-- A field that the opcode does not use is not 0. -/
  | unusedField
  /-- BLK_PAD, FIELD_ENC or FIELD_DEC with U = 0 and H not 0. -/
  | hmacIndexWithoutU
deriving DecidableEq, Repr

end Sys2Proof
end

