-- ==== Sys2Proof/WellFormed.lean ====
section
/-! DEFINITION. The well-formed commands: those that some command word encodes. The only condition beyond the fields'
widths is R88's: H is 0 when U = 0 in BLK_PAD, FIELD_ENC and FIELD_DEC. -/
namespace Sys2Proof

/-- R88: with U = 0, H must be 0. -/
def hmacFieldsOk (u : Bool) (h : CtxIx) : Bool := u || h == 0

/-- The commands that have an encoding (R88, R90). -/
def Instr.wellFormed : Instr → Bool
  | .blkPad _ u h => hmacFieldsOk u h
  | .fieldEnc _ u h => hmacFieldsOk u h
  | .fieldDec _ u h => hmacFieldsOk u h
  | .nop => true
  | .bfKey _ => true
  | .tfKey _ => true
  | .cbcInit _ _ => true
  | .ctxClear _ => true
  | .bfWeakchk _ => true
  | .cfbInit _ _ => true
  | .ecbEnc _ => true
  | .ecbDec _ => true
  | .cbcEnc _ => true
  | .cbcDec _ => true
  | .cfbEnc _ => true
  | .cfbDec _ => true
  | .sha256 => true
  | .kdf => true
  | .hmacInit _ => true
  | .hmacUpdate _ => true
  | .hmacDigest _ => true
  | .hctxClear _ => true
  | .fieldCount _ => true
  | .fieldTerm _ => true
  | .rngBytes => true
  | .rngByte => true
  | .rngInt => true
  | .rngLong => true
  | .rngBound => true
  | .rngSeed => true
  | .rngCycle => true

end Sys2Proof
end

