-- ==== Sys2Proof/Decode.lean ====
section
/-! DEFINITION. Decoding of a command word, total and rejecting by name (R85, R88 to R91), and the encoder of R86. -/
namespace Sys2Proof

/-- The fields of a command word (R86). -/
structure Fields where
  op : BitVec 8
  c : CtxIx
  h : CtxIx
  u : Bool
  v : Bool
  z : Bool
  reserved : BitVec 13
deriving DecidableEq, Repr

/-- R86: OP is bits 7:0, C 11:8, H 15:12, U 16, V 17, Z 18 and bits 31:19 are reserved. -/
def fieldsOf (w : Word) : Fields where
  op := w.extractLsb' 0 8
  c := w.extractLsb' 8 4
  h := w.extractLsb' 12 4
  u := w.getLsbD 16
  v := w.getLsbD 17
  z := w.getLsbD 18
  reserved := w.extractLsb' 19 13

/-- The format that the V bit selects (R240). -/
def formatOf (v : Bool) : Format := if v then .v3 else .v12

/-- The V bit of a format (R240). -/
def formatBit : Format → Bool
  | .v12 => false
  | .v3 => true

/-- Which of the fields C, H, U, V, Z an opcode uses: the column "fields" of R89. -/
structure Uses where
  c : Bool := false
  h : Bool := false
  u : Bool := false
  v : Bool := false
  z : Bool := false
deriving DecidableEq, Repr

/-- No field is used. -/
def usesNone : Uses := {}
/-- The field C is used. -/
def usesC : Uses := { c := true }
/-- The fields C and Z are used. -/
def usesCZ : Uses := { c := true, z := true }
/-- The field H is used. -/
def usesH : Uses := { h := true }
/-- The fields V, U and H are used. -/
def usesVUH : Uses := { v := true, u := true, h := true }
/-- The field V is used. -/
def usesV : Uses := { v := true }

/-- The opcode map of R89: for an OP value, the fields it uses and the command it selects. -/
def opcodeRow (f : Fields) : Option (Uses × Instr) :=
  match f.op.toNat with
  | 0x00 => some (usesNone, .nop)
  | 0x01 => some (usesC, .bfKey f.c)
  | 0x02 => some (usesC, .tfKey f.c)
  | 0x03 => some (usesCZ, .cbcInit f.c f.z)
  | 0x04 => some (usesC, .ctxClear f.c)
  | 0x05 => some (usesC, .bfWeakchk f.c)
  | 0x06 => some (usesCZ, .cfbInit f.c f.z)
  | 0x10 => some (usesC, .ecbEnc f.c)
  | 0x11 => some (usesC, .ecbDec f.c)
  | 0x12 => some (usesC, .cbcEnc f.c)
  | 0x13 => some (usesC, .cbcDec f.c)
  | 0x14 => some (usesC, .cfbEnc f.c)
  | 0x15 => some (usesC, .cfbDec f.c)
  | 0x20 => some (usesNone, .sha256)
  | 0x21 => some (usesNone, .kdf)
  | 0x28 => some (usesH, .hmacInit f.h)
  | 0x29 => some (usesH, .hmacUpdate f.h)
  | 0x2A => some (usesH, .hmacDigest f.h)
  | 0x2B => some (usesH, .hctxClear f.h)
  | 0x30 => some (usesVUH, .blkPad (formatOf f.v) f.u f.h)
  | 0x31 => some (usesVUH, .fieldEnc (formatOf f.v) f.u f.h)
  | 0x32 => some (usesVUH, .fieldDec (formatOf f.v) f.u f.h)
  | 0x33 => some (usesV, .fieldCount (formatOf f.v))
  | 0x34 => some (usesV, .fieldTerm (formatOf f.v))
  | 0x40 => some (usesNone, .rngBytes)
  | 0x41 => some (usesNone, .rngByte)
  | 0x42 => some (usesNone, .rngInt)
  | 0x43 => some (usesNone, .rngLong)
  | 0x44 => some (usesNone, .rngBound)
  | 0x45 => some (usesNone, .rngSeed)
  | 0x46 => some (usesNone, .rngCycle)
  | _ => none

/-- R88: every field that the opcode does not use is 0. -/
def unusedFieldsZero (r : Uses) (f : Fields) : Bool :=
  (r.c || f.c == 0) && (r.h || f.h == 0) && (r.u || !f.u) && (r.v || !f.v) && (r.z || !f.z)

/-- R90: decode a command word, in the order of its checks. -/
def decode (w : Word) : Except Illegal Instr :=
  if (fieldsOf w).reserved ≠ 0 then .error .reservedBits
  else match opcodeRow (fieldsOf w) with
    | none => .error .undefinedOpcode
    | some (r, i) =>
      if unusedFieldsZero r (fieldsOf w) = false then .error .unusedField
      else if i.wellFormed = false then .error .hmacIndexWithoutU
      else .ok i

/-- The instruction that the decoder reads from a table word of `nbits` bits, bit 0 the least significant; every bit
above `nbits` is 0, and a word of more than 32 significant bits is no command word (R85). -/
def decodeTableWord (nbits w : Nat) : Option Instr :=
  if w % 2 ^ nbits < 2 ^ 32 then (decode (BitVec.ofNat 32 (w % 2 ^ nbits))).toOption else none

/-- R86: word = OP | C<<8 | H<<12 | U<<16 | V<<17 | Z<<18. -/
def assemble (op : BitVec 8) (c h : CtxIx) (u v z : Bool) : Word :=
  op.setWidth 32 ||| (c.setWidth 32 <<< 8) ||| (h.setWidth 32 <<< 12) ||| ((BitVec.ofBool u).setWidth 32 <<< 16)
    ||| ((BitVec.ofBool v).setWidth 32 <<< 17) ||| ((BitVec.ofBool z).setWidth 32 <<< 18)

/-- The OP value of a command: the column "OP" of R89. -/
def Instr.opcode : Instr → BitVec 8
  | .nop => 0x00
  | .bfKey _ => 0x01
  | .tfKey _ => 0x02
  | .cbcInit _ _ => 0x03
  | .ctxClear _ => 0x04
  | .bfWeakchk _ => 0x05
  | .cfbInit _ _ => 0x06
  | .ecbEnc _ => 0x10
  | .ecbDec _ => 0x11
  | .cbcEnc _ => 0x12
  | .cbcDec _ => 0x13
  | .cfbEnc _ => 0x14
  | .cfbDec _ => 0x15
  | .sha256 => 0x20
  | .kdf => 0x21
  | .hmacInit _ => 0x28
  | .hmacUpdate _ => 0x29
  | .hmacDigest _ => 0x2A
  | .hctxClear _ => 0x2B
  | .blkPad _ _ _ => 0x30
  | .fieldEnc _ _ _ => 0x31
  | .fieldDec _ _ _ => 0x32
  | .fieldCount _ => 0x33
  | .fieldTerm _ => 0x34
  | .rngBytes => 0x40
  | .rngByte => 0x41
  | .rngInt => 0x42
  | .rngLong => 0x43
  | .rngBound => 0x44
  | .rngSeed => 0x45
  | .rngCycle => 0x46

/-- The command word of a command (R86): unused fields are 0 (R88). -/
def encode (i : Instr) : Word :=
  match i with
  | .bfKey c => assemble i.opcode c 0 false false false
  | .tfKey c => assemble i.opcode c 0 false false false
  | .cbcInit c z => assemble i.opcode c 0 false false z
  | .ctxClear c => assemble i.opcode c 0 false false false
  | .bfWeakchk c => assemble i.opcode c 0 false false false
  | .cfbInit c z => assemble i.opcode c 0 false false z
  | .ecbEnc c => assemble i.opcode c 0 false false false
  | .ecbDec c => assemble i.opcode c 0 false false false
  | .cbcEnc c => assemble i.opcode c 0 false false false
  | .cbcDec c => assemble i.opcode c 0 false false false
  | .cfbEnc c => assemble i.opcode c 0 false false false
  | .cfbDec c => assemble i.opcode c 0 false false false
  | .hmacInit h => assemble i.opcode 0 h false false false
  | .hmacUpdate h => assemble i.opcode 0 h false false false
  | .hmacDigest h => assemble i.opcode 0 h false false false
  | .hctxClear h => assemble i.opcode 0 h false false false
  | .blkPad v u h => assemble i.opcode 0 h u (formatBit v) false
  | .fieldEnc v u h => assemble i.opcode 0 h u (formatBit v) false
  | .fieldDec v u h => assemble i.opcode 0 h u (formatBit v) false
  | .fieldCount v => assemble i.opcode 0 0 false (formatBit v) false
  | .fieldTerm v => assemble i.opcode 0 0 false (formatBit v) false
  | .nop => assemble i.opcode 0 0 false false false
  | .sha256 => assemble i.opcode 0 0 false false false
  | .kdf => assemble i.opcode 0 0 false false false
  | .rngBytes => assemble i.opcode 0 0 false false false
  | .rngByte => assemble i.opcode 0 0 false false false
  | .rngInt => assemble i.opcode 0 0 false false false
  | .rngLong => assemble i.opcode 0 0 false false false
  | .rngBound => assemble i.opcode 0 0 false false false
  | .rngSeed => assemble i.opcode 0 0 false false false
  | .rngCycle => assemble i.opcode 0 0 false false false

end Sys2Proof
end

