-- ==== Sys2Proof/Config.lean ====
section
/-! DEFINITION. The implementation parameters of rule R8. A parameter the spec leaves OPEN is an opaque constant, so
that no proof can see a value of it; the others stand at the spec's own value or default. -/
namespace Sys2Proof

/-- How an 8-byte Twofish key is scheduled (R8, R149): padded with zero bytes to 128 bits, or with one key word. -/
inductive Tf64Rule where
  | pad128
  | k1
deriving DecidableEq, Repr, Inhabited

/-- The parameters that one block keeps for its whole life and that commands or reset read. `NCTX` and `NHCTX` are the
lengths of the machine's context lists (`State.nctx`, `State.nhctx`). -/
structure Params where
  /-- `DMEM_SIZE` of R8: a multiple of 4, from 256 to 2^24. -/
  dmemSize : Nat
  /-- `TF64_RULE` of R8 and R149. -/
  tf64 : Tf64Rule
  /-- `RNG_CYCLE_RESET` of R8: the generator's rebuild period after reset, 1 to 2^32-1. -/
  rngCycleReset : Word
deriving DecidableEq, Repr

namespace Config

/-- `BF_BS` (R8). -/
def bfBlockSize : Nat := 8
/-- `TF_BS` (R8). -/
def tfBlockSize : Nat := 16
/-- The largest admitted Blowfish key length in bytes (`BF_KEYLEN`, R8, R110). -/
def bfKeyMax : Nat := 56
/-- `TF_KEYLEN` (R8, R140). -/
def tfKeyLens : List Nat := [8, 16, 24, 32]
/-- `ITER_MIN` (R8, R204). -/
def iterMin : Nat := 2048
/-- `HMAC_SEED_MAX` (R8, R220). -/
def hmacSeedMax : Nat := 64
/-- `RNG_SEED_MAX` (R8, R280). -/
def rngSeedMax : Nat := 64

/-- `NCTX` of the block that `State.reset` resets: the default of R8. -/
def nctx : Nat := 4
/-- `NHCTX` of the block that `State.reset` resets: the default of R8. -/
def nhctx : Nat := 2
/-- `DMEM_SIZE` of the block that `State.reset` resets: the default of R8. -/
def dmemSize : Nat := 4096

/-- FREE VALUE. `TF64_RULE`, which R8 leaves OPEN (notes/assumptions/5.md). -/
opaque tf64Rule : Tf64Rule

/-- FREE VALUE. The word from which `rngCycleReset` is made (notes/assumptions/6.md). -/
opaque rngCycleFree : Word

/-- `RNG_CYCLE_RESET`, which R8 leaves OPEN within 1 to 2^32-1: the free word, kept inside that range. -/
def rngCycleReset : Word := if rngCycleFree = 0 then 1 else rngCycleFree

/-- FREE VALUE. `ENTROPY` (R8, R271): the two byte strings `(EA, EB)` that answer the `i`-th pool rebuild
(notes/assumptions/4.md). -/
opaque entropy : Nat → List Byte × List Byte

/-- The parameters of the block that `State.reset` resets. -/
def params : Params := { dmemSize := dmemSize, tf64 := tf64Rule, rngCycleReset := rngCycleReset }

end Config
end Sys2Proof
end

