-- ==== Sys2Proof/Machine/State.lean ====
section
/-! DEFINITION. The state of the block as plain data (R20), the outcomes of a command (R300), the accesses of the host
(R66, R67), and the state after reset (R332). -/
namespace Sys2Proof.Machine

/-- The outcome codes of R300, by their names there. `ErrCode.code` gives the numbers; no other code exists (R300). -/
inductive ErrCode where
  /-- 0x00: the command succeeded. -/
  | ok
  /-- 0x01: data length 0 or not a block multiple; codec supplied length greater than declared. -/
  | invalidLength
  /-- 0x02: a chained data command against the context's locked direction. -/
  | directionMismatch
  /-- 0x03: key length not admitted. -/
  | invalidKeyLength
  /-- 0x04: the cipher context has `alg = NONE`. -/
  | notKeyed
  /-- 0x05: C at or above NCTX, or H at or above NHCTX where H is used. -/
  | badContext
  /-- 0x06: a named DMEM region is not in bounds. -/
  | outOfBounds
  /-- 0x07: field type 0xFF supplied to the encoder. -/
  | reservedType
  /-- 0x08: fewer wire bytes than one block, or than the declared field needs. -/
  | truncated
  /-- 0x09: HMAC context not in the phase the command needs. -/
  | stateError
  /-- 0x0A: STFAIL = 1. -/
  | selfTestFailed
  /-- 0x0B: the CMD word is not a legal encoding. -/
  | illegalCommand
  /-- 0x0C: a scalar operand is outside its range. -/
  | invalidParameter
  /-- 0x0D: the context is not set up for the requested mode. -/
  | modeMismatch
deriving DecidableEq, Repr

/-- Why the machine stops with a fault: only a host access that the port answers with a bus error. -/
inductive Fault where
  /-- Raised by the host port for a register access that is not 32 bits wide, not 4-byte aligned, or at an offset of
  0x100 or more (R66). Safe: the spec itself asks for a fault of the host. -/
  | busErrorRegister
  /-- Raised by the host port for a DMEM access that is misaligned or reaches past DMEM_SIZE (R67). Safe, as above. -/
  | busErrorDmem
deriving DecidableEq, Repr

/-- Why the model gives a step no meaning. -/
inductive Refusal where
  /-- Raised by `exec` for a command without a meaning; no arm uses it. Safe: nothing is claimed of such a run. -/
  | notModelled (mnemonic : String)
  /-- Raised by a command or host read that consumes a DMEM byte not written since reset (R78, which asks for this
  refusal). Safe: nothing is claimed of such a run. -/
  | unwrittenDmem
deriving DecidableEq, Repr

/-- Which primitive a cipher context is keyed for (R31). -/
inductive Alg where
  | none
  | bf
  | tf
deriving DecidableEq, Repr

/-- Which chaining mode a cipher context was last initialised for (R31). -/
inductive Chain where
  | none
  | cbc
  | cfb
deriving DecidableEq, Repr

/-- The direction lock of a cipher context (R31). -/
inductive Dir where
  | unset
  | enc
  | dec
deriving DecidableEq, Repr

/-- A Blowfish schedule (R32). -/
structure BfSched where
  P : Vector Word 18
  S : Vector (Vector Word 256) 4
deriving DecidableEq, Repr

/-- A Twofish schedule (R33): the number `k` of 64-bit key words, the round subkeys and the `k` S-box key words. -/
structure TfSched where
  k : Nat
  K : Vector Word 40
  Sk : List Word
deriving DecidableEq, Repr

/-- The all-zero Blowfish schedule (R35). -/
def BfSched.zero : BfSched := { P := Vector.replicate 18 0, S := Vector.replicate 4 (Vector.replicate 256 0) }

/-- The all-zero Twofish schedule (R35): no key words (notes/assumptions/14.md). -/
def TfSched.zero : TfSched := { k := 0, K := Vector.replicate 40 0, Sk := [] }

/-- A cipher context (R31). `V` has length `bs`. -/
structure CipherCtx where
  alg : Alg
  bf : BfSched
  tf : TfSched
  bs : Nat
  chain : Chain
  V : List Byte
  dir : Dir
deriving DecidableEq, Repr

/-- The reset value of a cipher context (R35, R332). -/
def CipherCtx.reset : CipherCtx where
  alg := .none
  bf := BfSched.zero
  tf := TfSched.zero
  bs := 8
  chain := .none
  V := List.replicate 8 0
  dir := .unset

/-- A SHA-256 chaining value `Hs[0..8)` (R201). -/
structure HashVal where
  h0 : Word
  h1 : Word
  h2 : Word
  h3 : Word
  h4 : Word
  h5 : Word
  h6 : Word
  h7 : Word
deriving DecidableEq, Repr

/-- A SHA-256 streaming state `(Hs, pend, tot)` (R201). `tot` is unbounded, as R201 says. -/
structure ShaStream where
  Hs : HashVal
  pend : List Byte
  tot : Nat
deriving DecidableEq, Repr

/-- The zero streaming state: zero chaining value, `pend` empty, `tot = 0` (R38, R222). -/
def ShaStream.zero : ShaStream := { Hs := ⟨0, 0, 0, 0, 0, 0, 0, 0⟩, pend := [], tot := 0 }

/-- The lifecycle phase of an HMAC context (R36, R37). -/
inductive Phase where
  | idle
  | accum
  | done
deriving DecidableEq, Repr

/-- An HMAC context (R36): inner hash state, the 64-byte outer pad key and the 32-byte memoised digest. -/
structure HmacCtx where
  phase : Phase
  ist : ShaStream
  okey : List Byte
  memo : List Byte
deriving DecidableEq, Repr

/-- The reset value of an HMAC context (R38, R332). -/
def HmacCtx.reset : HmacCtx where
  phase := .idle
  ist := ShaStream.zero
  okey := List.replicate 64 0
  memo := List.replicate 32 0

/-- The random generator (R39). `ent` is the MODEL's own field: how many answers of the ENTROPY oracle have been used. -/
structure Rng where
  rbuf : List Byte
  ridx : Nat
  pool : List Byte
  rctr : BitVec 64
  rleft : Word
  rcycle : Word
  rseed : List Byte
  ent : Nat
deriving DecidableEq, Repr

/-- The reset value of the generator (R40, R332). -/
def Rng.reset (cycle : Word) (ent : Nat) : Rng where
  rbuf := List.replicate 64 0
  ridx := 64
  pool := List.replicate 32 0
  rctr := 0
  rleft := 0
  rcycle := cycle
  rseed := []
  ent := ent

/-- DMEM as the bytes written since reset, by rising address (R60, R78). An unlisted address holds no value. -/
abbrev Memory := List Host.Cell

/-- The width of a host access in bits (R66, R67). -/
inductive Width where
  | w8
  | w16
  | w32
deriving DecidableEq, Repr

/-- One thing the outside world does to the block: a host access to the register space (R66) or to DMEM (R67), or the
platform's reset with the verdict of its self-test (R330, R331). The value of a write is the low bits of `x`. -/
inductive HostOp where
  | readReg (width : Width) (offset : Nat)
  | writeReg (width : Width) (offset : Nat) (x : Word)
  | readMem (width : Width) (addr : Nat)
  | writeMem (width : Width) (addr : Nat) (x : Word)
  | reset (selftestPass : Bool)
deriving DecidableEq, Repr

/-- The registers of the host port by name (R26). `reserved` stands for the offsets 0x34 to 0xFC. -/
inductive Reg where
  | cmd
  | src
  | dst
  | len
  | arg0
  | arg1
  | arg2
  | status
  | result0
  | result1
  | result2
  | caps
  | dmemsz
  | reserved
deriving DecidableEq, Repr

/-- The whole state (R20). STATUS is held as its three fields (R24) and read through `State.statusWord`; CAPS and DMEMSZ
are constants computed from the parameters (R27, R28). `port` and `rdata` are the MODEL's own fields. -/
structure State where
  /-- The parameters of this block (R8); no step changes them. -/
  par : Params
  /-- CMD (R23). -/
  cmd : Word
  /-- SRC (R21). -/
  src : Word
  /-- DST (R21). -/
  dst : Word
  /-- LEN (R21). -/
  len : Word
  /-- ARG0 (R21). -/
  arg0 : Word
  /-- ARG1 (R21). -/
  arg1 : Word
  /-- ARG2 (R21). -/
  arg2 : Word
  /-- STATUS.ERRCODE (R24). -/
  errcode : ErrCode
  /-- STATUS.ERRSEEN (R24). -/
  errseen : Bool
  /-- STATUS.STFAIL (R24, R41). -/
  stfail : Bool
  /-- RESULT0 (R25). -/
  result0 : Word
  /-- RESULT1 (R25). -/
  result1 : Word
  /-- RESULT2 (R25). -/
  result2 : Word
  /-- DMEM (R60). -/
  mem : Memory
  /-- The cipher contexts `ctx[0..NCTX)` (R31). -/
  ctx : List CipherCtx
  /-- The HMAC contexts `hctx[0..NHCTX)` (R36). -/
  hctx : List HmacCtx
  /-- The random generator (R39). -/
  rng : Rng
  /-- MODEL's own: what the host and the platform do next, first access first (R14, R73; notes/assumptions/1.md). -/
  port : List HostOp
  /-- MODEL's own: the value that the last host read returned (notes/assumptions/3.md). -/
  rdata : Option Word
deriving DecidableEq, Repr

/-- The state that reset leaves in a block with `nctx` cipher contexts, `nhctx` HMAC contexts and the parameters `par`,
when the self-test's verdict is `pass` (R330 to R332). -/
def State.afterReset (nctx nhctx : Nat) (par : Params) (pass : Bool) (ent : Nat) (port : List HostOp) : State where
  par := par
  cmd := 0
  src := 0
  dst := 0
  len := 0
  arg0 := 0
  arg1 := 0
  arg2 := 0
  errcode := if pass then .ok else .selfTestFailed
  errseen := false
  stfail := !pass
  result0 := 0
  result1 := 0
  result2 := 0
  mem := []
  ctx := List.replicate nctx CipherCtx.reset
  hctx := List.replicate nhctx HmacCtx.reset
  rng := Rng.reset par.rngCycleReset ent
  port := port
  rdata := none

/-- The machine right after power-on reset (R332), with the parameters of `Config` and a self-test that passes, as a
correct build's does (R8); the host has issued no access yet. -/
def State.reset : State := State.afterReset Config.nctx Config.nhctx Config.params true 0 []

end Sys2Proof.Machine
end

