-- ==== Sys2Proof/Machine/Operands.lean ====
section
/-! DEFINITION. How operands are read and how byte strings and words are laid out (R10, R63, R64, R87). A command has no
operand form but these: a context index of its word, a 32-bit operand register taken as an unsigned number, and a byte
string of DMEM named by an address and a length. -/
namespace Sys2Proof.Machine

/-- `le32(b)` of R10: the unsigned value of 4 bytes read little-endian. -/
def le32 (b : List Byte) : Word := b.getD 3 0 ++ b.getD 2 0 ++ b.getD 1 0 ++ b.getD 0 0

/-- `be32(b)` of R10: the unsigned value of 4 bytes read big-endian. -/
def be32 (b : List Byte) : Word := b.getD 0 0 ++ b.getD 1 0 ++ b.getD 2 0 ++ b.getD 3 0

/-- `LE32(x)` of R10. -/
def LE32 (x : Word) : List Byte :=
  [x.extractLsb' 0 8, x.extractLsb' 8 8, x.extractLsb' 16 8, x.extractLsb' 24 8]

/-- `BE32(x)` of R10. -/
def BE32 (x : Word) : List Byte :=
  [x.extractLsb' 24 8, x.extractLsb' 16 8, x.extractLsb' 8 8, x.extractLsb' 0 8]

/-- `LE64(x)` of R10. -/
def LE64 (x : BitVec 64) : List Byte := LE32 (x.extractLsb' 0 32) ++ LE32 (x.extractLsb' 32 32)

/-- `BE64(x)` of R10. -/
def BE64 (x : BitVec 64) : List Byte := BE32 (x.extractLsb' 32 32) ++ BE32 (x.extractLsb' 0 32)

/-- `0^n` of R10. -/
def zeros (n : Nat) : List Byte := List.replicate n 0

/-- `a XOR b` on byte strings (R10). -/
def xorBytes (a b : List Byte) : List Byte := List.zipWith (· ^^^ ·) a b

/-- `b[i..i+n)` of R10. -/
def slice (b : List Byte) (i n : Nat) : List Byte := (b.drop i).take n

/-- `ceil_div(a, b)` of R10. -/
def ceilDiv (a b : Nat) : Nat := (a + b - 1) / b

/-- A byte string cut into `k` blocks of `bs` bytes, in order. -/
def blocks (bs : Nat) : Nat → List Byte → List (List Byte)
  | 0, _ => []
  | k + 1, p => p.take bs :: blocks bs k (p.drop bs)

/-- `InBounds(addr, n)` of R11 and R64: the sum is unbounded, so it never wraps. -/
abbrev State.inBounds (s : State) (addr : Word) (n : Nat) : Prop := addr.toNat + n ≤ s.par.dmemSize

/-- `NCTX` (R8): the number of cipher contexts. -/
def State.nctx (s : State) : Nat := s.ctx.length

/-- `NHCTX` (R8): the number of HMAC contexts. -/
def State.nhctx (s : State) : Nat := s.hctx.length

end Sys2Proof.Machine
end

