-- ==== Sys2Proof/Machine/Flags.lean ====
section
/-! DEFINITION. STATUS (R24, R30) and how the end of a command and a host write change it (R302). -/
namespace Sys2Proof.Machine

/-- The numeric error codes of R300. -/
def ErrCode.code : ErrCode → Byte
  | .ok => 0x00
  | .invalidLength => 0x01
  | .directionMismatch => 0x02
  | .invalidKeyLength => 0x03
  | .notKeyed => 0x04
  | .badContext => 0x05
  | .outOfBounds => 0x06
  | .reservedType => 0x07
  | .truncated => 0x08
  | .stateError => 0x09
  | .selfTestFailed => 0x0A
  | .illegalCommand => 0x0B
  | .invalidParameter => 0x0C
  | .modeMismatch => 0x0D

/-- STATUS as a host read sees it (R24): ERRCODE in bits 7:0, ERRSEEN in bit 8, STFAIL in bit 9, 0 above. -/
def State.statusWord (s : State) : Word :=
  (0 : BitVec 22) ++ BitVec.ofBool s.stfail ++ BitVec.ofBool s.errseen ++ s.errcode.code

/-- R302 for a command that succeeds: ERRCODE becomes 0x00 and ERRSEEN keeps its value. -/
def State.okStatus (s : State) : State := { s with errcode := .ok }

/-- R302 for a command that fails with `e`: ERRCODE takes the code and ERRSEEN is set; nothing else changes. -/
def State.errStatus (s : State) (e : ErrCode) : State := { s with errcode := e, errseen := true }

/-- R24: a host write of `x` to STATUS clears ERRSEEN when bit 8 of `x` is 1, and changes nothing else. -/
def State.writeStatus (s : State) (x : Word) : State := { s with errseen := s.errseen && !x.getLsbD 8 }

end Sys2Proof.Machine
end

