-- ==== Sys2Proof/Machine/Ops.lean ====
section
/-! DEFINITION. The named operations over DMEM, the contexts and the outcome of a command. A command error is the one
thing in this block that stands where other machines have an exception (R308): `raise` is that shared operation. -/
namespace Sys2Proof.Machine

/-- The outcome of a command or of a step. -/
abbrev Res := Host.Outcome State Fault Refusal

/-! ## DMEM -/

/-- Addresses strictly rise from a lower bound. -/
def Memory.risesFrom : Nat → Memory → Bool
  | _, [] => true
  | lo, (a, _) :: m => decide (lo ≤ a) && Memory.risesFrom (a + 1) m

/-- The canonical form of DMEM: addresses strictly rise. (An unlisted byte holds no value, so no entry can equal what an
unlisted address reads as.) -/
def Memory.wf (m : Memory) : Bool := Memory.risesFrom 0 m

/-- The byte at an address, or nothing where no byte has been written since reset (R78). -/
def Memory.get : Memory → Nat → Option Byte
  | [], _ => none
  | (k, b) :: m, a => if k = a then some b else Memory.get m a

/-- Write one byte. -/
def Memory.set : Memory → Nat → Byte → Memory
  | [], a, b => [(a, b)]
  | (k, x) :: m, a, b =>
    if a < k then (a, b) :: (k, x) :: m
    else if a = k then (a, b) :: m
    else (k, x) :: Memory.set m a b

/-- The `n` bytes from an address on, or nothing where one of them holds no value (R78). -/
def Memory.readBytes (m : Memory) : Nat → Nat → Option (List Byte)
  | _, 0 => some []
  | a, n + 1 =>
    match m.get a, Memory.readBytes m (a + 1) n with
    | some b, some bs => some (b :: bs)
    | _, _ => none

/-- Write a byte string from an address on. -/
def Memory.writeBytes (m : Memory) : Nat → List Byte → Memory
  | _, [] => m
  | a, b :: bs => Memory.writeBytes (m.set a b) (a + 1) bs

/-- `MemRead(addr, n)` of R11. -/
def State.read (s : State) (a n : Nat) : Option (List Byte) := s.mem.readBytes a n

/-- `MemWrite(addr, n, v)` of R11, with `n` the length of `v`. -/
def State.write (s : State) (a : Nat) (v : List Byte) : State := { s with mem := s.mem.writeBytes a v }

/-! ## Contexts, generator and results -/

/-- `ctx[c] <- x`. -/
def State.setCtx (s : State) (c : CtxIx) (x : CipherCtx) : State := { s with ctx := s.ctx.set c.toNat x }

/-- `hctx[h] <- y`. -/
def State.setHctx (s : State) (h : CtxIx) (y : HmacCtx) : State := { s with hctx := s.hctx.set h.toNat y }

/-- The generator's state becomes `g`. -/
def State.setRng (s : State) (g : Rng) : State := { s with rng := g }

/-- `reg[RESULT0] <- x`. -/
def State.setResult0 (s : State) (x : Word) : State := { s with result0 := x }

/-- `reg[RESULT1] <- x`. -/
def State.setResult1 (s : State) (x : Word) : State := { s with result1 := x }

/-- `reg[RESULT2] <- x`. -/
def State.setResult2 (s : State) (x : Word) : State := { s with result2 := x }

/-! ## The end of a command -/

/-- `raise E` of R11: the command ends with error `e`. No trap is taken (R308): the next state is `s`, the state before
the command, but for STATUS (R302). -/
def raise (e : ErrCode) (s : State) : Res := .next (s.errStatus e)

/-- The command ends with the outcome OK in the state `s` (R302). -/
def succeed (s : State) : Res := .next s.okStatus

/-- R304: while STFAIL = 1 the command raises SelfTestFailed. -/
def unlocked (s : State) (k : Res) : Res := if s.stfail then raise .selfTestFailed s else k

/-- The last common check of R303 for a command that uses C: BadContext when C is at or above NCTX. -/
def withCtx (c : CtxIx) (s : State) (k : CipherCtx → Res) : Res :=
  match s.ctx[c.toNat]? with
  | none => raise .badContext s
  | some x => k x

/-- The last common check of R303 for a command that uses H: BadContext when H is at or above NHCTX. -/
def withHctx (h : CtxIx) (s : State) (k : HmacCtx → Res) : Res :=
  match s.hctx[h.toNat]? with
  | none => raise .badContext s
  | some y => k y

/-- A command consumes the byte string `MemRead(addr, n)`; where one of its bytes holds no value the model refuses
(R78). -/
def withBytes (s : State) (a n : Nat) (k : List Byte → Res) : Res :=
  match s.read a n with
  | none => .refused .unwrittenDmem
  | some bs => k bs

end Sys2Proof.Machine
end

