-- ==== Sys2Proof/Machine/Sha256.lean ====
section
/-! DEFINITION. SHA-256 (R200 to R202), the key stretcher (R204) and the commands SHA256 and KDF (R203, R204). -/
namespace Sys2Proof.Machine

/-- The constants `K[0..64)` of R202. -/
def shaK : List Word :=
  [0x428A2F98, 0x71374491, 0xB5C0FBCF, 0xE9B5DBA5, 0x3956C25B, 0x59F111F1, 0x923F82A4, 0xAB1C5ED5,
   0xD807AA98, 0x12835B01, 0x243185BE, 0x550C7DC3, 0x72BE5D74, 0x80DEB1FE, 0x9BDC06A7, 0xC19BF174,
   0xE49B69C1, 0xEFBE4786, 0x0FC19DC6, 0x240CA1CC, 0x2DE92C6F, 0x4A7484AA, 0x5CB0A9DC, 0x76F988DA,
   0x983E5152, 0xA831C66D, 0xB00327C8, 0xBF597FC7, 0xC6E00BF3, 0xD5A79147, 0x06CA6351, 0x14292967] ++
  [0x27B70A85, 0x2E1B2138, 0x4D2C6DFC, 0x53380D13, 0x650A7354, 0x766A0ABB, 0x81C2C92E, 0x92722C85,
   0xA2BFE8A1, 0xA81A664B, 0xC24B8B70, 0xC76C51A3, 0xD192E819, 0xD6990624, 0xF40E3585, 0x106AA070,
   0x19A4C116, 0x1E376C08, 0x2748774C, 0x34B0BCB5, 0x391C0CB3, 0x4ED8AA4A, 0x5B9CCA4F, 0x682E6FF3,
   0x748F82EE, 0x78A5636F, 0x84C87814, 0x8CC70208, 0x90BEFFFA, 0xA4506CEB, 0xBEF9A3F7, 0xC67178F2]

/-- The initial chaining value `H0` of R202. -/
def shaH0 : HashVal :=
  ⟨0x6A09E667, 0xBB67AE85, 0x3C6EF372, 0xA54FF53A, 0x510E527F, 0x9B05688C, 0x1F83D9AB, 0x5BE0CD19⟩

/-- `Ch` of R202. -/
def shaCh (x y z : Word) : Word := (x &&& y) ^^^ (~~~x &&& z)
/-- `Maj` of R202. -/
def shaMaj (x y z : Word) : Word := (x &&& y) ^^^ (x &&& z) ^^^ (y &&& z)
/-- `Σ0` of R202. -/
def shaBigSigma0 (x : Word) : Word := x.rotateRight 2 ^^^ x.rotateRight 13 ^^^ x.rotateRight 22
/-- `Σ1` of R202. -/
def shaBigSigma1 (x : Word) : Word := x.rotateRight 6 ^^^ x.rotateRight 11 ^^^ x.rotateRight 25
/-- `σ0` of R202. -/
def shaSigma0 (x : Word) : Word := x.rotateRight 7 ^^^ x.rotateRight 18 ^^^ (x >>> 3)
/-- `σ1` of R202. -/
def shaSigma1 (x : Word) : Word := x.rotateRight 17 ^^^ x.rotateRight 19 ^^^ (x >>> 10)

/-- The words `W[0..16)` of a block (R202). -/
def shaBlockWords (B : List Byte) : List Word := (List.range 16).map fun t => be32 (slice B (4 * t) 4)

/-- `n` more schedule words on top of a list that holds the words so far, the last one first: the head is W[t-1], so
W[t-2], W[t-7], W[t-15] and W[t-16] stand at 1, 6, 14 and 15 (R202). -/
def shaExtend : Nat → List Word → List Word
  | 0, ws => ws
  | n + 1, ws =>
    shaExtend n ((shaSigma1 (ws.getD 1 0) + ws.getD 6 0 + shaSigma0 (ws.getD 14 0) + ws.getD 15 0) :: ws)

/-- The schedule `W[0..64)` of a block (R202). -/
def shaSchedule (B : List Byte) : List Word := (shaExtend 48 (shaBlockWords B).reverse).reverse

/-- One round of R202 on `(a, ..., h)` with `(K[t], W[t])`. -/
def shaRound (v : HashVal) (kw : Word × Word) : HashVal :=
  let T1 := v.h7 + shaBigSigma1 v.h4 + shaCh v.h4 v.h5 v.h6 + kw.1 + kw.2
  let T2 := shaBigSigma0 v.h0 + shaMaj v.h0 v.h1 v.h2
  ⟨T1 + T2, v.h0, v.h1, v.h2, v.h3 + T1, v.h4, v.h5, v.h6⟩

/-- Word by word addition of two chaining values (R202). -/
def HashVal.add (x y : HashVal) : HashVal :=
  ⟨x.h0 + y.h0, x.h1 + y.h1, x.h2 + y.h2, x.h3 + y.h3, x.h4 + y.h4, x.h5 + y.h5, x.h6 + y.h6, x.h7 + y.h7⟩

/-- `Compress(H, B)` of R202. -/
def shaCompress (H : HashVal) (B : List Byte) : HashVal := H.add ((shaK.zip (shaSchedule B)).foldl shaRound H)

/-- Compress a list of blocks, in order (R201). -/
def shaCompressAll (H : HashVal) (Bs : List (List Byte)) : HashVal := Bs.foldl shaCompress H

/-- The 32 bytes of a chaining value, big-endian (R200). -/
def HashVal.bytes (H : HashVal) : List Byte :=
  BE32 H.h0 ++ BE32 H.h1 ++ BE32 H.h2 ++ BE32 H.h3 ++ BE32 H.h4 ++ BE32 H.h5 ++ BE32 H.h6 ++ BE32 H.h7

/-- `Init()` of R201. -/
def ShaStream.init : ShaStream := { Hs := shaH0, pend := [], tot := 0 }

/-- `Update(st, d)` of R201: every whole 64-byte block of `pend ‖ d` is compressed and the rest stays pending. -/
def ShaStream.update (st : ShaStream) (d : List Byte) : ShaStream :=
  let p := st.pend ++ d
  { Hs := shaCompressAll st.Hs (blocks 64 (p.length / 64) p)
    pend := p.drop (64 * (p.length / 64))
    tot := st.tot + d.length }

/-- The least `z` with `(n + 1 + z + 8) mod 64 = 0`, for a pending length `n` (R201). -/
def shaPadZeros (n : Nat) : Nat := (119 - n % 64) % 64

/-- The padded rest of a message: `pend ‖ 80 ‖ 0^z ‖ BE64((8·tot) mod 2^64)` (R201). -/
def ShaStream.padded (st : ShaStream) : List Byte :=
  st.pend ++ [0x80] ++ zeros (shaPadZeros st.pend.length) ++ BE64 (BitVec.ofNat 64 (8 * st.tot))

/-- `Final(st)` of R201. -/
def ShaStream.final (st : ShaStream) : List Byte :=
  (shaCompressAll st.Hs (blocks 64 (st.padded.length / 64) st.padded)).bytes

/-- `SHA256(m)` of R200. -/
def sha256 (m : List Byte) : List Byte := (ShaStream.init.update m).final

/-- `SHA256` applied `n` times (R204). -/
def sha256Iter : Nat → List Byte → List Byte
  | 0, x => x
  | n + 1, x => sha256Iter n (sha256 x)

/-- `makeInternalKey(passphrase, salt, iterations)` of R204. -/
def stretchKey (pass salt : List Byte) (it : Nat) : List Byte := sha256Iter it (sha256 (pass ++ salt))

/-- SHA256 (R203). -/
def execSha256 (s : State) : Res :=
  unlocked s <|
    if ¬s.inBounds s.src s.len.toNat then raise .outOfBounds s
    else if ¬s.inBounds s.dst 32 then raise .outOfBounds s
    else withBytes s s.src.toNat s.len.toNat fun m => succeed (s.write s.dst.toNat (sha256 m))

/-- KDF (R204). -/
def execKdf (s : State) : Res :=
  unlocked s <|
    if s.arg2.toNat < Config.iterMin then raise .invalidParameter s
    else if ¬s.inBounds s.src s.len.toNat then raise .outOfBounds s
    else if ¬s.inBounds s.arg0 s.arg1.toNat then raise .outOfBounds s
    else if ¬s.inBounds s.dst 32 then raise .outOfBounds s
    else withBytes s s.src.toNat s.len.toNat fun pass =>
      withBytes s s.arg0.toNat s.arg1.toNat fun salt => succeed (s.write s.dst.toNat (stretchKey pass salt s.arg2.toNat))

end Sys2Proof.Machine
end

