-- ==== Sys2Proof/Machine/Hmac.lean ====
section
/-! DEFINITION. The HMAC-SHA256 checksum accumulator (R220 to R225). -/
namespace Sys2Proof.Machine

/-- `K0` of R220 and R224: the seed padded with zeros to 64 bytes. -/
def hmacK0 (seed : List Byte) : List Byte := seed ++ zeros (64 - seed.length)

/-- `K0 XOR 36^64` (R220). -/
def hmacInnerPad (seed : List Byte) : List Byte := (hmacK0 seed).map (· ^^^ 0x36)

/-- `K0 XOR 5C^64` (R220). -/
def hmacOuterPad (seed : List Byte) : List Byte := (hmacK0 seed).map (· ^^^ 0x5C)

/-- `HMAC(s, m)` of R224. -/
def hmac (seed m : List Byte) : List Byte := sha256 (hmacOuterPad seed ++ sha256 (hmacInnerPad seed ++ m))

/-- The context that HMAC_INIT leaves for a seed (R220). -/
def HmacCtx.start (seed : List Byte) : HmacCtx where
  phase := .accum
  ist := ShaStream.init.update (hmacInnerPad seed)
  okey := hmacOuterPad seed
  memo := zeros 32

/-- Absorb data into the inner hash: HMAC_UPDATE (R221) and `HmacAbsorb` (R225). -/
def HmacCtx.absorb (y : HmacCtx) (d : List Byte) : HmacCtx := { y with ist := y.ist.update d }

/-- The context after HMAC_DIGEST (R222): in `ACCUM` the digest is computed and memoised and the inner state zeroed; in
`DONE` nothing changes. -/
def HmacCtx.digested (y : HmacCtx) : HmacCtx :=
  if y.phase = .accum then
    { y with memo := sha256 (y.okey ++ y.ist.final), phase := .done, ist := ShaStream.zero }
  else y

/-- HMAC_INIT (R220). -/
def execHmacInit (h : CtxIx) (s : State) : Res :=
  unlocked s <| withHctx h s fun _ =>
    if s.len.toNat > Config.hmacSeedMax then raise .invalidParameter s
    else if ¬s.inBounds s.src s.len.toNat then raise .outOfBounds s
    else withBytes s s.src.toNat s.len.toNat fun seed => succeed (s.setHctx h (HmacCtx.start seed))

/-- HMAC_UPDATE (R221). -/
def execHmacUpdate (h : CtxIx) (s : State) : Res :=
  unlocked s <| withHctx h s fun y =>
    if ¬s.inBounds s.src s.len.toNat then raise .outOfBounds s
    else if y.phase ≠ .accum then raise .stateError s
    else withBytes s s.src.toNat s.len.toNat fun d => succeed (s.setHctx h (y.absorb d))

/-- HMAC_DIGEST (R222). -/
def execHmacDigest (h : CtxIx) (s : State) : Res :=
  unlocked s <| withHctx h s fun y =>
    if ¬s.inBounds s.dst 32 then raise .outOfBounds s
    else if y.phase = .idle then raise .stateError s
    else succeed ((s.setHctx h y.digested).write s.dst.toNat y.digested.memo)

/-- HCTX_CLEAR (R223): it runs while STFAIL = 1 too (R304). -/
def execHctxClear (h : CtxIx) (s : State) : Res := withHctx h s fun _ => succeed (s.setHctx h HmacCtx.reset)

end Sys2Proof.Machine
end

