-- ==== Sys2Proof/Machine/Rng.lean ====
section
/-! DEFINITION. The random generator (R270 to R274) and its commands (R275 to R281). The functions take the ENTROPY
oracle as an argument; the machine gives them `Config.entropy`, of which nothing is known (R271). -/
namespace Sys2Proof.Machine

/-- `Rebuild()` of R273: the next answer of the oracle rebuilds the pool. -/
def Rng.rebuild (oracle : Nat → List Byte × List Byte) (g : Rng) : Rng :=
  { g with
    pool := sha256 (g.rbuf ++ (oracle g.ent).1 ++ g.rseed ++ (oracle g.ent).2)
    rleft := g.rcycle
    ent := g.ent + 1 }

/-- `Refill()` of R274 once the pool is fresh. -/
def Rng.refillFrom (g : Rng) : Rng :=
  let h1 := sha256 (g.pool ++ LE64 g.rctr)
  let h2 := sha256 (g.pool ++ xorBytes h1 (g.rbuf.take 32))
  { g with rleft := g.rleft - 1, rbuf := h1 ++ h2, rctr := g.rctr + 1, ridx := 0 }

/-- `Refill()` of R274. -/
def Rng.refill (oracle : Nat → List Byte × List Byte) (g : Rng) : Rng :=
  if g.rleft = 0 then (g.rebuild oracle).refillFrom else g.refillFrom

/-- The generator as it stands before it serves a byte: refilled when `rbuf` is empty (R272). -/
def Rng.ready (oracle : Nat → List Byte × List Byte) (g : Rng) : Rng := if g.ridx = 64 then g.refill oracle else g

/-- `RngByte()` of R272. -/
def Rng.byte (oracle : Nat → List Byte × List Byte) (g : Rng) : Byte × Rng :=
  let g' := g.ready oracle
  (g'.rbuf.getD g'.ridx 0, { g' with ridx := g'.ridx + 1 })

/-- `RngBytes(n)` of R272. -/
def Rng.bytes (oracle : Nat → List Byte × List Byte) : Nat → Rng → List Byte × Rng
  | 0, g => ([], g)
  | n + 1, g =>
    let b := g.byte oracle
    let r := Rng.bytes oracle n b.2
    (b.1 :: r.1, r.2)

/-- The bytes that a command draws from the machine's generator (R272). -/
def State.drawn (s : State) (n : Nat) : List Byte := (s.rng.bytes Config.entropy n).1

/-- The state once a command has drawn `n` bytes (R272). -/
def State.afterDraw (s : State) (n : Nat) : State := s.setRng (s.rng.bytes Config.entropy n).2

/-- RNG_BYTES (R275). -/
def execRngBytes (s : State) : Res :=
  unlocked s <|
    if ¬s.inBounds s.dst s.len.toNat then raise .outOfBounds s
    else succeed ((s.afterDraw s.len.toNat).write s.dst.toNat (s.drawn s.len.toNat))

/-- RNG_BYTE (R276). -/
def execRngByte (s : State) : Res :=
  unlocked s <| succeed ((s.afterDraw 1).setResult0 (((s.drawn 1).getD 0 0).setWidth 32))

/-- RNG_INT (R277). -/
def execRngInt (s : State) : Res :=
  unlocked s <| succeed ((s.afterDraw 4).setResult0 (le32 (s.drawn 4)))

/-- RNG_LONG (R278). -/
def execRngLong (s : State) : Res :=
  unlocked s <|
    succeed (((s.afterDraw 8).setResult0 (le32 ((s.drawn 8).take 4))).setResult1 (le32 ((s.drawn 8).drop 4)))

/-- The reduction of R279: the sign bit is masked first, then the value is taken modulo the bound. -/
def boundedDraw (x b : Word) : Word := (x &&& 0x7FFFFFFF) % b

/-- RNG_BOUND (R279). -/
def execRngBound (s : State) : Res :=
  unlocked s <|
    if s.arg0 = 0 ∨ s.arg0.toNat > 0x7FFFFFFF then raise .invalidParameter s
    else succeed ((s.afterDraw 4).setResult0 (boundedDraw (le32 (s.drawn 4)) s.arg0))

/-- RNG_SEED (R280). -/
def execRngSeed (s : State) : Res :=
  unlocked s <|
    if s.len.toNat > Config.rngSeedMax then raise .invalidParameter s
    else if ¬s.inBounds s.src s.len.toNat then raise .outOfBounds s
    else withBytes s s.src.toNat s.len.toNat fun seed => succeed (s.setRng { s.rng with rseed := seed, rleft := 0 })

/-- RNG_CYCLE (R281). -/
def execRngCycle (s : State) : Res :=
  unlocked s <|
    if s.arg0 = 0 then raise .invalidParameter s
    else succeed (s.setRng { s.rng with rcycle := s.arg0, rleft := 0 })

end Sys2Proof.Machine
end

