-- ==== Sys2Proof/Machine/Codec.lean ====
section
/-! DEFINITION. The field-alignment and padding codec (R240 to R249). -/
namespace Sys2Proof.Machine

/-- The block size of a format (R240). -/
def codecBs : Format → Nat
  | .v12 => 8
  | .v3 => 16

/-- `FieldCount(n, V)` of R241, with the legacy block of an empty V1/V2 field. -/
def fieldCount (n : Nat) : Format → Nat
  | .v3 => 1 + ceilDiv (n - 11) 16
  | .v12 => 1 + max 1 (ceilDiv n 8)

/-- The wire length `T = FieldCount(n, V)·bs` of a field (R241). -/
def wireLen (n : Nat) (v : Format) : Nat := fieldCount n v * codecBs v

/-- Where the logical data starts in the wire: byte 5 in V3 (R242), byte 8 in V1/V2 (R243). -/
def dataOffset : Format → Nat
  | .v12 => 8
  | .v3 => 5

/-- How many filler bytes a field of length `n` has: every wire byte that is neither header nor data (R242, R243). -/
def fillerLen (n : Nat) (v : Format) : Nat := wireLen n v - 5 - n

/-- The wire of a field with type `t`, data `D` and the filler bytes in the order they are drawn (R242, R243, R249): in
V1/V2 the first three filler bytes complete the header block. -/
def fieldWire (v : Format) (t : Byte) (D filler : List Byte) : List Byte :=
  let header := LE32 (BitVec.ofNat 32 D.length) ++ [t]
  match v with
  | .v3 => header ++ D ++ filler
  | .v12 => header ++ filler.take 3 ++ D ++ filler.drop 3

/-- The common checks of R303 for a codec command with the fields U and H, then `k` with the HMAC context that U = 1
selects. A term with U = 0 and H not 0 has no encoding and is answered as R90 answers such a word. -/
def codecChecks (u : Bool) (h : CtxIx) (s : State) (k : Option HmacCtx → Res) : Res :=
  if hmacFieldsOk u h = false then raise .illegalCommand s
  else unlocked s <| if u then withHctx h s fun y => k (some y) else k none

/-- `HmacCheck(H)` of R225 passes, or U = 0. -/
def hmacReady : Option HmacCtx → Bool
  | none => true
  | some y => y.phase == .accum

/-- `HmacAbsorb(H, d)` of R225, or nothing with U = 0. -/
def hmacAbsorb (h : CtxIx) (y : Option HmacCtx) (d : List Byte) (s : State) : State :=
  match y with
  | none => s
  | some y => s.setHctx h (y.absorb d)

/-- The padded length of a buffer of `n` bytes: `out` of R244. -/
def paddedLen (n : Nat) (v : Format) : Nat := ceilDiv n (codecBs v) * codecBs v

/-- BLK_PAD (R244). -/
def execBlkPad (v : Format) (u : Bool) (h : CtxIx) (s : State) : Res :=
  codecChecks u h s fun y =>
    if ¬s.inBounds s.src s.len.toNat then raise .outOfBounds s
    else if ¬s.inBounds s.dst (paddedLen s.len.toNat v) then raise .outOfBounds s
    else if hmacReady y = false then raise .stateError s
    else withBytes s s.src.toNat s.len.toNat fun d =>
      let pad := paddedLen s.len.toNat v - s.len.toNat
      succeed ((((hmacAbsorb h y d s).afterDraw pad).write s.dst.toNat (d ++ s.drawn pad)).setResult0
        (BitVec.ofNat 32 (paddedLen s.len.toNat v)))

/-- FIELD_ENC (R245). -/
def execFieldEnc (v : Format) (u : Bool) (h : CtxIx) (s : State) : Res :=
  codecChecks u h s fun y =>
    if s.arg0.toNat > s.len.toNat then raise .invalidLength s
    else if s.arg1.toNat > 255 then raise .invalidParameter s
    else if s.arg1.toNat = 255 then raise .reservedType s
    else if ¬s.inBounds s.src s.arg0.toNat then raise .outOfBounds s
    else if ¬s.inBounds s.dst (wireLen s.len.toNat v) then raise .outOfBounds s
    else if hmacReady y = false then raise .stateError s
    else withBytes s s.src.toNat s.arg0.toNat fun d =>
      let D := d ++ zeros (s.len.toNat - s.arg0.toNat)
      let f := fillerLen s.len.toNat v
      succeed (((((hmacAbsorb h y D s).afterDraw f).write s.dst.toNat (fieldWire v (s.arg1.setWidth 8) D (s.drawn f))).setResult0
        (BitVec.ofNat 32 (wireLen s.len.toNat v))).setResult1 (BitVec.ofNat 32 (fieldCount s.len.toNat v)))

/-- FIELD_DEC (R246). `MemRead(SRC, L)` consumes all L wire bytes once L is at least one block, so a byte among them
that nothing has written is refused, filler and bytes beyond the field included (R78); their values are then ignored. -/
def execFieldDec (v : Format) (u : Bool) (h : CtxIx) (s : State) : Res :=
  codecChecks u h s fun y =>
    if ¬s.inBounds s.src s.len.toNat then raise .outOfBounds s
    else if hmacReady y = false then raise .stateError s
    else if s.len.toNat < codecBs v then raise .truncated s
    else withBytes s s.src.toNat s.len.toNat fun w =>
      let length := le32 (slice w 0 4)
      let n := length.toNat
      if s.len.toNat < wireLen n v then raise .truncated s
      else if ¬s.inBounds s.dst n then raise .outOfBounds s
      else
        let D := slice w (dataOffset v) n
        succeed (((((hmacAbsorb h y D s).write s.dst.toNat D).setResult0 ((w.getD 4 0).setWidth 32)).setResult1
          length).setResult2 (BitVec.ofNat 32 (wireLen n v)))

/-- FIELD_COUNT (R247). -/
def execFieldCount (v : Format) (s : State) : Res :=
  unlocked s <| succeed (s.setResult0 (BitVec.ofNat 32 (fieldCount s.arg0.toNat v)))

/-- FIELD_TERM (R248): the wire of a field of type 0xFF and length 0. -/
def execFieldTerm (v : Format) (s : State) : Res :=
  unlocked s <|
    if ¬s.inBounds s.dst (wireLen 0 v) then raise .outOfBounds s
    else
      succeed ((((s.afterDraw (wireLen 0 v - 5)).write s.dst.toNat
        ([0x00, 0x00, 0x00, 0x00, 0xFF] ++ s.drawn (wireLen 0 v - 5))).setResult0
          (BitVec.ofNat 32 (wireLen 0 v))).setResult1 (BitVec.ofNat 32 (fieldCount 0 v)))

end Sys2Proof.Machine
end

