-- ==== Sys2Proof/Machine/Blowfish.lean ====
section
/-! DEFINITION. The byte-swapped Blowfish primitive (R112 to R115) and the commands BF_KEY and BF_WEAKCHK (R116, R117). -/
namespace Sys2Proof.Machine

/-- The P-array word of an index. -/
def BfSched.p (t : BfSched) (i : Nat) : Word := t.P[i]?.getD 0

/-- The entry of S-box `b` at a byte. -/
def BfSched.s (t : BfSched) (b : Fin 4) (x : Byte) : Word := (t.S[b])[x.toNat]'x.isLt

/-- The round function `F` of R113. -/
def bfF (t : BfSched) (x : Word) : Word :=
  ((t.s 0 (x.extractLsb' 24 8) + t.s 1 (x.extractLsb' 16 8)) ^^^ t.s 2 (x.extractLsb' 8 8)) + t.s 3 (x.extractLsb' 0 8)

/-- One round of R113 with the P-array word `p`: L is whitened, R takes F(L), and the halves are swapped. -/
def bfRound (t : BfSched) (p : Word) (b : Word × Word) : Word × Word :=
  (b.2 ^^^ bfF t (b.1 ^^^ p), b.1 ^^^ p)

/-- The first `n` rounds, where round `i` takes the P-array word `key i`. -/
def bfRounds (t : BfSched) (key : Nat → Word) : Nat → Word × Word → Word × Word
  | 0, b => b
  | n + 1, b => bfRound t (key n) (bfRounds t key n b)

/-- `CoreEnc(P, S, L, R)` of R113: 16 rounds, the last swap undone, and the output whitening. -/
def bfCoreEnc (t : BfSched) (b : Word × Word) : Word × Word :=
  let r := bfRounds t t.p 16 b
  (r.2 ^^^ t.p 17, r.1 ^^^ t.p 16)

/-- `CoreDec(P, S, L, R)` of R113: the rounds take `P[17]` down to `P[2]`. -/
def bfCoreDec (t : BfSched) (b : Word × Word) : Word × Word :=
  let r := bfRounds t (fun i => t.p (17 - i)) 16 b
  (r.2 ^^^ t.p 0, r.1 ^^^ t.p 1)

/-- `BF_E` of R114: each half is read and written little-endian. -/
def bfE (t : BfSched) (b : List Byte) : List Byte :=
  let r := bfCoreEnc t (le32 (b.take 4), le32 (b.drop 4))
  LE32 r.1 ++ LE32 r.2

/-- `BF_D` of R114. -/
def bfD (t : BfSched) (b : List Byte) : List Byte :=
  let r := bfCoreDec t (le32 (b.take 4), le32 (b.drop 4))
  LE32 r.1 ++ LE32 r.2

/-- The word `d` that R112 XORs into `P[i]`: key bytes taken cyclically, big-endian. The running index `j` of R112 is
`(4i + t) mod len(k)`. -/
def bfKeyWord (k : List Byte) (i : Nat) : Word :=
  be32 ((List.range 4).map fun t => k.getD ((4 * i + t) % k.length) 0)

/-- Overwrite `P[i]` and `P[i+1]` with the next encryption of the running block (R112). -/
def bfFillP (st : BfSched × Word × Word) (i : Nat) : BfSched × Word × Word :=
  let r := bfCoreEnc st.1 st.2
  ({ st.1 with P := (st.1.P.setIfInBounds i r.1).setIfInBounds (i + 1) r.2 }, r)

/-- Overwrite `S[b][i]` and `S[b][i+1]` with the next encryption of the running block (R112). -/
def bfFillS (b : Fin 4) (st : BfSched × Word × Word) (i : Nat) : BfSched × Word × Word :=
  let r := bfCoreEnc st.1 st.2
  ({ st.1 with S := st.1.S.set b (((st.1.S[b]).setIfInBounds i r.1).setIfInBounds (i + 1) r.2) }, r)

/-- The P-array after the key bytes are XORed in (R112). -/
def bfMixKey (k : List Byte) : BfSched :=
  { bfInitial with P := Vector.ofFn fun i : Fin 18 => bfInitial.p i ^^^ bfKeyWord k i }

/-- The key schedule of R112: the all-zero block is encrypted again and again, overwriting first P and then the four
S-boxes, each encryption with the schedule as it stands. -/
def bfKeySchedule (k : List Byte) : BfSched :=
  let st := ((List.range 9).map (2 * ·)).foldl bfFillP (bfMixKey k, 0, 0)
  ((List.finRange 4).foldl (fun st b => ((List.range 128).map (2 * ·)).foldl (bfFillS b) st) st).1

/-- Two entries of one S-box are equal (R117). -/
abbrev BfSched.Weak (t : BfSched) : Prop := ∃ b : Fin 4, ∃ i j : Fin 256, i ≠ j ∧ (t.S[b])[i] = (t.S[b])[j]

/-- The context that BF_KEY leaves (R116). -/
def CipherCtx.keyedBf (k : List Byte) : CipherCtx where
  alg := .bf
  bf := bfKeySchedule k
  tf := TfSched.zero
  bs := Config.bfBlockSize
  chain := .none
  V := zeros Config.bfBlockSize
  dir := .unset

/-- BF_KEY (R116). -/
def execBfKey (c : CtxIx) (s : State) : Res :=
  unlocked s <| withCtx c s fun _ =>
    if ¬(1 ≤ s.len.toNat ∧ s.len.toNat ≤ Config.bfKeyMax) then raise .invalidKeyLength s
    else if ¬s.inBounds s.src s.len.toNat then raise .outOfBounds s
    else withBytes s s.src.toNat s.len.toNat fun k => succeed (s.setCtx c (CipherCtx.keyedBf k))

/-- BF_WEAKCHK (R117). -/
def execBfWeakchk (c : CtxIx) (s : State) : Res :=
  unlocked s <| withCtx c s fun x =>
    match x.alg with
    | .none => raise .notKeyed s
    | .tf => raise .modeMismatch s
    | .bf => succeed (s.setResult0 (if x.bf.Weak then 1 else 0))

end Sys2Proof.Machine
end

