-- ==== Sys2Proof/Machine/Twofish.lean ====
section
/-! DEFINITION. The Twofish primitive (R141 to R149, R151) and the command TF_KEY (R150). -/
namespace Sys2Proof.Machine

/-- The four 4-bit tables of one of the permutations q0 and q1 (R141). -/
structure QTables where
  t0 : List (BitVec 4)
  t1 : List (BitVec 4)
  t2 : List (BitVec 4)
  t3 : List (BitVec 4)
deriving DecidableEq, Repr

/-- The tables of q0 (R141). -/
def q0Tables : QTables where
  t0 := [0x8, 0x1, 0x7, 0xD, 0x6, 0xF, 0x3, 0x2, 0x0, 0xB, 0x5, 0x9, 0xE, 0xC, 0xA, 0x4]
  t1 := [0xE, 0xC, 0xB, 0x8, 0x1, 0x2, 0x3, 0x5, 0xF, 0x4, 0xA, 0x6, 0x7, 0x0, 0x9, 0xD]
  t2 := [0xB, 0xA, 0x5, 0xE, 0x6, 0xD, 0x9, 0x0, 0xC, 0x8, 0xF, 0x3, 0x2, 0x4, 0x7, 0x1]
  t3 := [0xD, 0x7, 0xF, 0x4, 0x1, 0x2, 0x6, 0xE, 0x9, 0xB, 0x3, 0x0, 0x8, 0x5, 0xC, 0xA]

/-- The tables of q1 (R141). -/
def q1Tables : QTables where
  t0 := [0x2, 0x8, 0xB, 0xD, 0xF, 0x7, 0x6, 0xE, 0x3, 0x1, 0x9, 0x4, 0x0, 0xA, 0xC, 0x5]
  t1 := [0x1, 0xE, 0x2, 0xB, 0x4, 0xC, 0x3, 0x7, 0x6, 0xD, 0xA, 0x5, 0xF, 0x9, 0x0, 0x8]
  t2 := [0x4, 0xC, 0x7, 0x5, 0x1, 0x6, 0x9, 0xA, 0x0, 0xE, 0xD, 0x8, 0x2, 0xB, 0x3, 0xF]
  t3 := [0xB, 0x9, 0x5, 0x1, 0xC, 0x3, 0xD, 0xE, 0x6, 0x4, 0x7, 0xF, 0x2, 0x0, 0x8, 0xA]

/-- The mixing of two nibbles that R141 does twice: `(a XOR b, a XOR ROR4(b, 1) XOR (8a mod 16))`. -/
def qMix (ab : BitVec 4 × BitVec 4) : BitVec 4 × BitVec 4 :=
  (ab.1 ^^^ ab.2, ab.1 ^^^ ab.2.rotateRight 1 ^^^ (8 * ab.1))

/-- The permutation that R141 builds from four tables. -/
def qPerm (t : QTables) (x : Byte) : Byte :=
  let m1 := qMix (x.extractLsb' 4 4, x.extractLsb' 0 4)
  let m2 := qMix (t.t0.getD m1.1.toNat 0, t.t1.getD m1.2.toNat 0)
  t.t3.getD m2.2.toNat 0 ++ t.t2.getD m2.1.toNat 0

/-- `q0` (R141). -/
def q0 (x : Byte) : Byte := qPerm q0Tables x

/-- `q1` (R141). -/
def q1 (x : Byte) : Byte := qPerm q1Tables x

/-- Multiplication by x in GF(2^8) with the reduction polynomial `poly` (R142). -/
def gfDouble (poly : BitVec 9) (a : Byte) : Byte := (a <<< 1) ^^^ (if a.msb then poly.setWidth 8 else 0)

/-- The sum over the first `n` bits of `b` of `a` times that bit's power of x. -/
def gfMulBits (poly : BitVec 9) (b : Byte) : Nat → Nat → Byte → Byte
  | 0, _, _ => 0
  | n + 1, i, a => (if b.getLsbD i then a else 0) ^^^ gfMulBits poly b n (i + 1) (gfDouble poly a)

/-- Multiplication in GF(2^8) with the reduction polynomial `poly` (R142). -/
def gfMul (poly : BitVec 9) (a b : Byte) : Byte := gfMulBits poly b 8 0 a

/-- A row of a matrix times a column of bytes (R142). -/
def gfDot (poly : BitVec 9) (row col : List Byte) : Byte := (List.zipWith (gfMul poly) row col).foldl (· ^^^ ·) 0

/-- A matrix times a column, as a word whose byte `j` is row `j`'s product (R143, R144). -/
def gfMatWord (poly : BitVec 9) (mat : List (List Byte)) (col : List Byte) : Word :=
  le32 (mat.map fun row => gfDot poly row col)

/-- `x^8+x^6+x^5+x^3+1` (R142). -/
def mdsPoly : BitVec 9 := 0x169

/-- `x^8+x^6+x^3+x^2+1` (R142). -/
def rsPoly : BitVec 9 := 0x14D

/-- The matrix MDS (R142). -/
def mdsMatrix : List (List Byte) :=
  [[0x01, 0xEF, 0x5B, 0x5B],
   [0x5B, 0xEF, 0xEF, 0x01],
   [0xEF, 0x5B, 0x01, 0xEF],
   [0xEF, 0x01, 0xEF, 0x5B]]

/-- The matrix RS (R142). -/
def rsMatrix : List (List Byte) :=
  [[0x01, 0xA4, 0x55, 0x87, 0x5A, 0x58, 0xDB, 0x9E],
   [0xA4, 0x56, 0x82, 0xF3, 0x1E, 0xC6, 0x68, 0xE5],
   [0x02, 0xA1, 0xFC, 0xC1, 0x47, 0xAE, 0x3D, 0x19],
   [0xA4, 0x55, 0x87, 0x5A, 0x58, 0xDB, 0x9E, 0x03]]

/-- The four bytes `(y0, y1, y2, y3)` that h works on (R144). -/
structure Quad where
  y0 : Byte
  y1 : Byte
  y2 : Byte
  y3 : Byte
deriving DecidableEq, Repr

/-- Byte `j` of word `L_i` (R144). -/
def keyByte (L : List Word) (i j : Nat) : Byte := (L.getD i 0).extractLsb' (8 * j) 8

/-- The layer of h that only k = 4 has (R144). -/
def hLayer4 (L : List Word) (y : Quad) : Quad where
  y0 := q1 y.y0 ^^^ keyByte L 3 0
  y1 := q0 y.y1 ^^^ keyByte L 3 1
  y2 := q0 y.y2 ^^^ keyByte L 3 2
  y3 := q1 y.y3 ^^^ keyByte L 3 3

/-- The layer of h for k = 3 and 4 (R144). -/
def hLayer3 (L : List Word) (y : Quad) : Quad where
  y0 := q1 y.y0 ^^^ keyByte L 2 0
  y1 := q1 y.y1 ^^^ keyByte L 2 1
  y2 := q0 y.y2 ^^^ keyByte L 2 2
  y3 := q0 y.y3 ^^^ keyByte L 2 3

/-- The last layers of h for k = 2, 3 and 4 (R144). -/
def hLayer2 (L : List Word) (y : Quad) : Quad where
  y0 := q1 (q0 (q0 y.y0 ^^^ keyByte L 1 0) ^^^ keyByte L 0 0)
  y1 := q0 (q0 (q1 y.y1 ^^^ keyByte L 1 1) ^^^ keyByte L 0 1)
  y2 := q1 (q1 (q0 y.y2 ^^^ keyByte L 1 2) ^^^ keyByte L 0 2)
  y3 := q0 (q1 (q1 y.y3 ^^^ keyByte L 1 3) ^^^ keyByte L 0 3)

/-- The layers of h for k = 1, which only `TF64_RULE = K1` reaches (R144). -/
def hLayer1 (L : List Word) (y : Quad) : Quad where
  y0 := q1 (q0 y.y0 ^^^ keyByte L 0 0)
  y1 := q0 (q0 y.y1 ^^^ keyByte L 0 1)
  y2 := q1 (q1 y.y2 ^^^ keyByte L 0 2)
  y3 := q0 (q1 y.y3 ^^^ keyByte L 0 3)

/-- The q layers of `h(X, L)` for a list of `k` words (R144). -/
def hLayers (k : Nat) (L : List Word) (y : Quad) : Quad :=
  let y := if k = 4 then hLayer4 L y else y
  let y := if 3 ≤ k then hLayer3 L y else y
  let y := if 2 ≤ k then hLayer2 L y else y
  if k = 1 then hLayer1 L y else y

/-- `h(X, L)` for a list L of `k` words (R144). -/
def tfH (k : Nat) (X : Word) (L : List Word) : Word :=
  let y := hLayers k L ⟨X.extractLsb' 0 8, X.extractLsb' 8 8, X.extractLsb' 16 8, X.extractLsb' 24 8⟩
  gfMatWord mdsPoly mdsMatrix [y.y0, y.y1, y.y2, y.y3]

/-- `g(X)` (R145). -/
def tfG (t : TfSched) (X : Word) : Word := tfH t.k X t.Sk

/-- A word whose four bytes all equal `b`: the products `2i·rho` and `(2i+1)·rho` of R143. -/
def rep4 (b : Byte) : Word := b ++ b ++ b ++ b

/-- The key words `Mw` of R143 at the indices `2i + par`: `Me` for `par = 0`, `Mo` for `par = 1`. -/
def tfKeyWords (k par : Nat) (m : List Byte) : List Word :=
  (List.range k).map fun i => le32 (slice m (4 * (2 * i + par)) 4)

/-- `Sv[i]` of R143. -/
def tfSv (m : List Byte) (i : Nat) : Word := gfMatWord rsPoly rsMatrix (slice m (8 * i) 8)

/-- The pair of round subkeys `(K[2i], K[2i+1])` of R143. -/
def tfSubkeys (k : Nat) (m : List Byte) (i : Nat) : Word × Word :=
  let A := tfH k (rep4 (BitVec.ofNat 8 (2 * i))) (tfKeyWords k 0 m)
  let B := (tfH k (rep4 (BitVec.ofNat 8 (2 * i + 1))) (tfKeyWords k 1 m)).rotateLeft 8
  (A + B, (A + 2 * B).rotateLeft 9)

/-- The key schedule of R143 for key bytes `m` of `8k` bytes. -/
def tfKeySchedule (m : List Byte) : TfSched where
  k := m.length / 8
  K := Vector.ofFn fun j : Fin 40 =>
    let p := tfSubkeys (m.length / 8) m (j.val / 2)
    if j.val % 2 = 0 then p.1 else p.2
  Sk := (List.range (m.length / 8)).reverse.map (tfSv m)

/-- The subkey `K[i]`. -/
def TfSched.key (t : TfSched) (i : Nat) : Word := t.K[i]?.getD 0

/-- The four words of a Twofish block (R146). -/
structure TfBlock where
  r0 : Word
  r1 : Word
  r2 : Word
  r3 : Word
deriving DecidableEq, Repr

/-- The four little-endian words of a 16-byte block (R146, R148). -/
def TfBlock.ofBytes (b : List Byte) : TfBlock :=
  ⟨le32 (slice b 0 4), le32 (slice b 4 4), le32 (slice b 8 4), le32 (slice b 12 4)⟩

/-- The 16 bytes of four little-endian words (R146, R148). -/
def TfBlock.toBytes (r : TfBlock) : List Byte := LE32 r.r0 ++ LE32 r.r1 ++ LE32 r.r2 ++ LE32 r.r3

/-- XOR with the four subkeys from `K[i]` on: the whitenings of R146 and R147. -/
def TfBlock.whiten (t : TfSched) (i : Nat) (r : TfBlock) : TfBlock :=
  ⟨r.r0 ^^^ t.key i, r.r1 ^^^ t.key (i + 1), r.r2 ^^^ t.key (i + 2), r.r3 ^^^ t.key (i + 3)⟩

/-- `R[(i+2) mod 4]` for i = 0..3 (R146, R147). -/
def TfBlock.swapHalves (r : TfBlock) : TfBlock := ⟨r.r2, r.r3, r.r0, r.r1⟩

/-- `(F0, F1)` of round `r` for the words `a` and `b` (R146, R147). -/
def tfF (t : TfSched) (r : Nat) (a b : Word) : Word × Word :=
  let T0 := tfG t a
  let T1 := tfG t (b.rotateLeft 8)
  (T0 + T1 + t.key (2 * r + 8), T0 + 2 * T1 + t.key (2 * r + 9))

/-- Round `r` of encryption (R146). -/
def tfRound (t : TfSched) (r : Nat) (R : TfBlock) : TfBlock :=
  let f := tfF t r R.r0 R.r1
  ⟨(R.r2 ^^^ f.1).rotateRight 1, R.r3.rotateLeft 1 ^^^ f.2, R.r0, R.r1⟩

/-- Round `r` of decryption (R147). -/
def tfUnround (t : TfSched) (r : Nat) (R : TfBlock) : TfBlock :=
  let f := tfF t r R.r2 R.r3
  ⟨R.r2, R.r3, R.r0.rotateLeft 1 ^^^ f.1, (R.r1 ^^^ f.2).rotateRight 1⟩

/-- The rounds 0 to n-1 of encryption, in order. -/
def tfRounds (t : TfSched) : Nat → TfBlock → TfBlock
  | 0, R => R
  | n + 1, R => tfRound t n (tfRounds t n R)

/-- The rounds n-1 down to 0 of decryption, in order. -/
def tfUnrounds (t : TfSched) : Nat → TfBlock → TfBlock
  | 0, R => R
  | n + 1, R => tfUnrounds t n (tfUnround t n R)

/-- `TF_E` (R146). -/
def tfE (t : TfSched) (b : List Byte) : List Byte :=
  (((tfRounds t 16 ((TfBlock.ofBytes b).whiten t 0)).swapHalves).whiten t 4).toBytes

/-- `TF_D` (R147). -/
def tfD (t : TfSched) (c : List Byte) : List Byte :=
  ((tfUnrounds t 16 (((TfBlock.ofBytes c).whiten t 4).swapHalves)).whiten t 0).toBytes

/-- R149 and R150: under `PAD128` an 8-byte key is padded with 8 zero bytes; every other key is used as it is. -/
def tfPadKey (rule : Tf64Rule) (m : List Byte) : List Byte :=
  if m.length = 8 ∧ rule = .pad128 then m ++ zeros 8 else m

/-- The context that TF_KEY leaves (R150). -/
def CipherCtx.keyedTf (rule : Tf64Rule) (m : List Byte) : CipherCtx where
  alg := .tf
  bf := BfSched.zero
  tf := tfKeySchedule (tfPadKey rule m)
  bs := Config.tfBlockSize
  chain := .none
  V := zeros Config.tfBlockSize
  dir := .unset

/-- TF_KEY (R150). -/
def execTfKey (c : CtxIx) (s : State) : Res :=
  unlocked s <| withCtx c s fun _ =>
    if s.len.toNat ∉ Config.tfKeyLens then raise .invalidKeyLength s
    else if ¬s.inBounds s.src s.len.toNat then raise .outOfBounds s
    else withBytes s s.src.toNat s.len.toNat fun m => succeed (s.setCtx c (CipherCtx.keyedTf s.par.tf64 m))

end Sys2Proof.Machine
end

