-- ==== Sys2Proof/Machine/Modes.lean ====
section
/-! DEFINITION. The ECB, CBC and CFB commands and the management of cipher contexts (R170 to R179). -/
namespace Sys2Proof.Machine

/-- `BlockEnc(x, b)` (R115, R151). A context that is not keyed has no primitive: every command refuses it with NotKeyed
before it comes to a block. -/
def CipherCtx.blockEnc (x : CipherCtx) (b : List Byte) : List Byte :=
  match x.alg with
  | .none => b
  | .bf => bfE x.bf b
  | .tf => tfE x.tf b

/-- `BlockDec(x, b)` (R115, R151). -/
def CipherCtx.blockDec (x : CipherCtx) (b : List Byte) : List Byte :=
  match x.alg with
  | .none => b
  | .bf => bfD x.bf b
  | .tf => tfD x.tf b

/-- A byte string in the blocks of a context, in order (R174). -/
def CipherCtx.split (x : CipherCtx) (p : List Byte) : List (List Byte) := blocks x.bs (p.length / x.bs) p

/-- The blocks and the final vector of CBC encryption with the block cipher `E` from the vector `v` (R176). -/
def cbcEncBlocks (E : List Byte → List Byte) : List Byte → List (List Byte) → List (List Byte) × List Byte
  | v, [] => ([], v)
  | v, p :: ps =>
    let c := E (xorBytes p v)
    let r := cbcEncBlocks E c ps
    (c :: r.1, r.2)

/-- The blocks and the final vector of CBC decryption with the inverse cipher `D` from the vector `v` (R177). -/
def cbcDecBlocks (D : List Byte → List Byte) : List Byte → List (List Byte) → List (List Byte) × List Byte
  | v, [] => ([], v)
  | v, c :: cs =>
    let r := cbcDecBlocks D c cs
    (xorBytes (D c) v :: r.1, r.2)

/-- The blocks and the final vector of CFB encryption with the block cipher `E` from the vector `v` (R178). -/
def cfbEncBlocks (E : List Byte → List Byte) : List Byte → List (List Byte) → List (List Byte) × List Byte
  | v, [] => ([], v)
  | v, p :: ps =>
    let c := xorBytes p (E v)
    let r := cfbEncBlocks E c ps
    (c :: r.1, r.2)

/-- The blocks and the final vector of CFB decryption with the block cipher `E` from the vector `v` (R179). -/
def cfbDecBlocks (E : List Byte → List Byte) : List Byte → List (List Byte) → List (List Byte) × List Byte
  | v, [] => ([], v)
  | v, c :: cs =>
    let r := cfbDecBlocks E c cs
    (xorBytes c (E v) :: r.1, r.2)

/-- The data checks of R173, in its order. `mode` is the chaining mode that the command needs, `none` for ECB, which
reads neither `chain` nor `dir`; `d` is the command's direction. -/
def dataChecks (c : CtxIx) (mode : Chain) (d : Dir) (s : State) (k : CipherCtx → List Byte → Res) : Res :=
  unlocked s <| withCtx c s fun x =>
    if x.alg = .none then raise .notKeyed s
    else if s.len.toNat = 0 ∨ s.len.toNat % x.bs ≠ 0 then raise .invalidLength s
    else if ¬s.inBounds s.src s.len.toNat then raise .outOfBounds s
    else if ¬s.inBounds s.dst s.len.toNat then raise .outOfBounds s
    else if mode ≠ .none ∧ x.chain ≠ mode then raise .modeMismatch s
    else if mode ≠ .none ∧ x.dir ≠ .unset ∧ x.dir ≠ d then raise .directionMismatch s
    else withBytes s s.src.toNat s.len.toNat fun p => k x p

/-- The end of a chained data command (R176 to R179): the context takes the vector and the direction, and the output
blocks go to DST. -/
def chainDone (c : CtxIx) (x : CipherCtx) (d : Dir) (r : List (List Byte) × List Byte) (s : State) : Res :=
  succeed ((s.setCtx c { x with V := r.2, dir := d }).write s.dst.toNat r.1.flatten)

/-- The common text of CBC_INIT and CFB_INIT (R170, R171): with `z` the vector is zero and SRC is not read. -/
def chainInit (c : CtxIx) (z : Bool) (mode : Chain) (s : State) : Res :=
  unlocked s <| withCtx c s fun x =>
    if x.alg = .none then raise .notKeyed s
    else if z then succeed (s.setCtx c { x with V := zeros x.bs, chain := mode, dir := .unset })
    else if ¬s.inBounds s.src x.bs then raise .outOfBounds s
    else withBytes s s.src.toNat x.bs fun iv => succeed (s.setCtx c { x with V := iv, chain := mode, dir := .unset })

/-- CBC_INIT (R170). -/
def execCbcInit (c : CtxIx) (z : Bool) (s : State) : Res := chainInit c z .cbc s

/-- CFB_INIT (R171). -/
def execCfbInit (c : CtxIx) (z : Bool) (s : State) : Res := chainInit c z .cfb s

/-- CTX_CLEAR (R172): it runs while STFAIL = 1 too (R304). -/
def execCtxClear (c : CtxIx) (s : State) : Res := withCtx c s fun _ => succeed (s.setCtx c CipherCtx.reset)

/-- ECB_ENC (R174). -/
def execEcbEnc (c : CtxIx) (s : State) : Res :=
  dataChecks c .none .enc s fun x p => succeed (s.write s.dst.toNat ((x.split p).map x.blockEnc).flatten)

/-- ECB_DEC (R175). -/
def execEcbDec (c : CtxIx) (s : State) : Res :=
  dataChecks c .none .dec s fun x p => succeed (s.write s.dst.toNat ((x.split p).map x.blockDec).flatten)

/-- CBC_ENC (R176). -/
def execCbcEnc (c : CtxIx) (s : State) : Res :=
  dataChecks c .cbc .enc s fun x p => chainDone c x .enc (cbcEncBlocks x.blockEnc x.V (x.split p)) s

/-- CBC_DEC (R177). -/
def execCbcDec (c : CtxIx) (s : State) : Res :=
  dataChecks c .cbc .dec s fun x p => chainDone c x .dec (cbcDecBlocks x.blockDec x.V (x.split p)) s

/-- CFB_ENC (R178). -/
def execCfbEnc (c : CtxIx) (s : State) : Res :=
  dataChecks c .cfb .enc s fun x p => chainDone c x .enc (cfbEncBlocks x.blockEnc x.V (x.split p)) s

/-- CFB_DEC (R179). -/
def execCfbDec (c : CtxIx) (s : State) : Res :=
  dataChecks c .cfb .dec s fun x p => chainDone c x .dec (cfbDecBlocks x.blockEnc x.V (x.split p)) s

end Sys2Proof.Machine
end

