-- ==== Sys2Proof/Machine/System.lean ====
section
/-! DEFINITION. NOP (R307). -/
namespace Sys2Proof.Machine

/-- NOP (R307): only ERRCODE becomes 0x00; it succeeds while STFAIL = 1 too (R304). -/
def execNop (s : State) : Res := succeed s

end Sys2Proof.Machine
end

