-- ==== Sys2Proof/Machine/Dispatch.lean ====
section
/-! DEFINITION. The dispatch of a command to its meaning: one arm for each constructor of `Instr`. -/
namespace Sys2Proof.Machine

def exec (i : Instr) (s : State) : Host.Outcome State Fault Refusal :=
  match i with
  | .nop => Sys2Proof.Machine.execNop s
  | .bfKey c => Sys2Proof.Machine.execBfKey c s
  | .tfKey c => Sys2Proof.Machine.execTfKey c s
  | .cbcInit c z => Sys2Proof.Machine.execCbcInit c z s
  | .ctxClear c => Sys2Proof.Machine.execCtxClear c s
  | .bfWeakchk c => Sys2Proof.Machine.execBfWeakchk c s
  | .cfbInit c z => Sys2Proof.Machine.execCfbInit c z s
  | .ecbEnc c => Sys2Proof.Machine.execEcbEnc c s
  | .ecbDec c => Sys2Proof.Machine.execEcbDec c s
  | .cbcEnc c => Sys2Proof.Machine.execCbcEnc c s
  | .cbcDec c => Sys2Proof.Machine.execCbcDec c s
  | .cfbEnc c => Sys2Proof.Machine.execCfbEnc c s
  | .cfbDec c => Sys2Proof.Machine.execCfbDec c s
  | .sha256 => Sys2Proof.Machine.execSha256 s
  | .kdf => Sys2Proof.Machine.execKdf s
  | .hmacInit h => Sys2Proof.Machine.execHmacInit h s
  | .hmacUpdate h => Sys2Proof.Machine.execHmacUpdate h s
  | .hmacDigest h => Sys2Proof.Machine.execHmacDigest h s
  | .hctxClear h => Sys2Proof.Machine.execHctxClear h s
  | .blkPad v u h => Sys2Proof.Machine.execBlkPad v u h s
  | .fieldEnc v u h => Sys2Proof.Machine.execFieldEnc v u h s
  | .fieldDec v u h => Sys2Proof.Machine.execFieldDec v u h s
  | .fieldCount v => Sys2Proof.Machine.execFieldCount v s
  | .fieldTerm v => Sys2Proof.Machine.execFieldTerm v s
  | .rngBytes => Sys2Proof.Machine.execRngBytes s
  | .rngByte => Sys2Proof.Machine.execRngByte s
  | .rngInt => Sys2Proof.Machine.execRngInt s
  | .rngLong => Sys2Proof.Machine.execRngLong s
  | .rngBound => Sys2Proof.Machine.execRngBound s
  | .rngSeed => Sys2Proof.Machine.execRngSeed s
  | .rngCycle => Sys2Proof.Machine.execRngCycle s

end Sys2Proof.Machine
end

