-- ==== Sys2Proof/Machine/HostPort.lean ====
section
/-! DEFINITION. The host port: the register space (R26 to R29, R66), the DMEM accesses of the host (R67, R68), the write
of CMD that runs a command (R23), and the platform's reset (R330). -/
namespace Sys2Proof.Machine

/-- The bytes of an access width (R67). -/
def Width.bytes : Width → Nat
  | .w8 => 1
  | .w16 => 2
  | .w32 => 4

/-- The register map of R26, for a 4-byte aligned offset below 0x100. -/
def regAt (offset : Nat) : Reg :=
  match offset with
  | 0x00 => .cmd
  | 0x04 => .src
  | 0x08 => .dst
  | 0x0C => .len
  | 0x10 => .arg0
  | 0x14 => .arg1
  | 0x18 => .arg2
  | 0x1C => .status
  | 0x20 => .result0
  | 0x24 => .result1
  | 0x28 => .result2
  | 0x2C => .caps
  | 0x30 => .dmemsz
  | _ => .reserved

/-- CAPS (R27): NCTX in bits 7:0, NHCTX in 15:8, the command-set version 0x01 in 23:16, the TF64_RULE setting in bit 24,
0 above. -/
def State.caps (s : State) : Word :=
  (0 : BitVec 7) ++ BitVec.ofBool (s.par.tf64 == .k1) ++ (0x01 : Byte) ++ BitVec.ofNat 8 s.nhctx ++ BitVec.ofNat 8 s.nctx

/-- What a host read of a register returns (R23 to R29). -/
def State.readReg (s : State) : Reg → Word
  | .cmd => s.cmd
  | .src => s.src
  | .dst => s.dst
  | .len => s.len
  | .arg0 => s.arg0
  | .arg1 => s.arg1
  | .arg2 => s.arg2
  | .status => s.statusWord
  | .result0 => s.result0
  | .result1 => s.result1
  | .result2 => s.result2
  | .caps => s.caps
  | .dmemsz => BitVec.ofNat 32 s.par.dmemSize
  | .reserved => 0

/-- The end of a CMD write (R23, R90): decode the word and run its command; an illegal word raises IllegalCommand. -/
def runCommand (w : Word) (s : State) : Res :=
  match decode w with
  | .error _ => raise .illegalCommand s
  | .ok i => exec i s

/-- A host write of `x` to a register: CMD stores the word and runs it (R23), STATUS clears ERRSEEN (R24), the operand
registers take the value (R21), and every other register ignores the write (R25, R29). -/
def hostWriteReg (r : Reg) (x : Word) (s : State) : Res :=
  match r with
  | .cmd => runCommand x { s with cmd := x }
  | .src => .next { s with src := x }
  | .dst => .next { s with dst := x }
  | .len => .next { s with len := x }
  | .arg0 => .next { s with arg0 := x }
  | .arg1 => .next { s with arg1 := x }
  | .arg2 => .next { s with arg2 := x }
  | .status => .next (s.writeStatus x)
  | .result0 => .next s
  | .result1 => .next s
  | .result2 => .next s
  | .caps => .next s
  | .dmemsz => .next s
  | .reserved => .next s

/-- The register accesses that the port serves (R66). -/
abbrev regAccessOk (w : Width) (offset : Nat) : Prop := w = .w32 ∧ offset % 4 = 0 ∧ offset < 0x100

/-- The DMEM accesses that the port serves (R67): naturally aligned and inside DMEM. -/
abbrev State.memAccessOk (s : State) (w : Width) (a : Nat) : Prop := a % w.bytes = 0 ∧ a + w.bytes ≤ s.par.dmemSize

/-- The value of a little-endian DMEM read: 1, 2 or 4 bytes, with zeros above (R67). -/
def leValue (b : List Byte) : Word := le32 b

/-- The bytes of a little-endian DMEM write: the low 1, 2 or 4 bytes of `x` (R67). -/
def leBytes (w : Width) (x : Word) : List Byte := (LE32 x).take w.bytes

/-- One thing that the host or the platform does (R66, R67, R330). -/
def hostAccess (op : HostOp) (s : State) : Res :=
  match op with
  | .readReg w o =>
    if regAccessOk w o then .next { s with rdata := some (s.readReg (regAt o)) } else .fault .busErrorRegister
  | .writeReg w o x =>
    if regAccessOk w o then hostWriteReg (regAt o) x s else .fault .busErrorRegister
  | .readMem w a =>
    if s.memAccessOk w a then
      match s.mem.readBytes a w.bytes with
      | none => .refused .unwrittenDmem
      | some b => .next { s with rdata := some (leValue b) }
    else .fault .busErrorDmem
  | .writeMem w a x =>
    if s.memAccessOk w a then .next { s with mem := s.mem.writeBytes a (leBytes w x) } else .fault .busErrorDmem
  | .reset pass => .next (State.afterReset s.nctx s.nhctx s.par pass s.rng.ent s.port)

/-- The host port takes the next pending access (R73); with none pending the block is idle and holds its state (R316). -/
def portStep (s : State) : Res :=
  match s.port with
  | [] => .next s
  | op :: rest => hostAccess op { s with port := rest }

/-- A CMD write of the table word `w` of `nbits` bits as the next thing the host does. -/
def State.pushCommand (s : State) (nbits w : Nat) : State :=
  { s with port := .writeReg .w32 0x00 (BitVec.ofNat 32 (w % 2 ^ nbits)) :: s.port }

end Sys2Proof.Machine
end

