-- ==== Sys2Proof/Machine/Step.lean ====
section
/-! DEFINITION. The step of the machine: the block has no program counter and fetches nothing (R22); what it does next is
what the host does next at its port (R14, R73). -/
namespace Sys2Proof.Machine

/-- One step: the next pending access of the host port, with the command it starts (R12). -/
def step (s : State) : Host.Outcome State Fault Refusal := portStep s

/-- The state in which the very next step is the host's write of this command word to CMD
(notes/assumptions/1.md). -/
def State.withFetchWord (s : State) (nbits w : Nat) : State := s.pushCommand nbits w

end Sys2Proof.Machine
end

