-- ==== Sys2Proof/Machine/Assembly.lean ====
section
/-! DEFINITION. The host assembly statements (R92) and the pseudo-instructions (R93), as the accesses that they stand for
at the host port. -/
namespace Sys2Proof.Machine

/-- The offset of a register (R26); for the reserved range its first offset. -/
def Reg.offset : Reg → Nat
  | .cmd => 0x00
  | .src => 0x04
  | .dst => 0x08
  | .len => 0x0C
  | .arg0 => 0x10
  | .arg1 => 0x14
  | .arg2 => 0x18
  | .status => 0x1C
  | .result0 => 0x20
  | .result1 => 0x24
  | .result2 => 0x28
  | .caps => 0x2C
  | .dmemsz => 0x30
  | .reserved => 0x34

/-- A host assembly statement (R92). `cmd` holds the items of the statement, so it can write an illegal word too. -/
inductive Stmt where
  | wr (r : Reg) (imm : Word)
  | rd (r : Reg)
  | wb (addr : Nat) (imm : Byte)
  | wh (addr : Nat) (imm : BitVec 16)
  | ww (addr : Nat) (imm : Word)
  | rb (addr : Nat)
  | rh (addr : Nat)
  | rw (addr : Nat)
  | cmd (op : BitVec 8) (c h : CtxIx) (u v z : Bool)
deriving DecidableEq, Repr

/-- The host access that a statement is (R92). -/
def Stmt.op : Stmt → HostOp
  | .wr r imm => .writeReg .w32 r.offset imm
  | .rd r => .readReg .w32 r.offset
  | .wb addr imm => .writeMem .w8 addr (imm.setWidth 32)
  | .wh addr imm => .writeMem .w16 addr (imm.setWidth 32)
  | .ww addr imm => .writeMem .w32 addr imm
  | .rb addr => .readMem .w8 addr
  | .rh addr => .readMem .w16 addr
  | .rw addr => .readMem .w32 addr
  | .cmd op c h u v z => .writeReg .w32 Reg.cmd.offset (assemble op c h u v z)

/-- The pseudo-instructions of R93, in its order. A codec one with `some h` is its form with `.u hN`. -/
inductive Pseudo where
  | db (addr : Nat) (bytes : List Byte)
  | bfKey (c : CtxIx) (src len : Word)
  | tfKey (c : CtxIx) (src len : Word)
  | cbcInit (c : CtxIx) (iv : Word)
  | cbcInit0 (c : CtxIx)
  | cfbInit (c : CtxIx) (iv : Word)
  | cfbInit0 (c : CtxIx)
  | ctxClear (c : CtxIx)
  | bfWeak (c : CtxIx)
  | ecbEnc (c : CtxIx) (dst src len : Word)
  | ecbDec (c : CtxIx) (dst src len : Word)
  | cbcEnc (c : CtxIx) (dst src len : Word)
  | cbcDec (c : CtxIx) (dst src len : Word)
  | cfbEnc (c : CtxIx) (dst src len : Word)
  | cfbDec (c : CtxIx) (dst src len : Word)
  | sha256 (dst src len : Word)
  | genrandhash (dst src : Word)
  | kdf (dst pass plen salt slen iter : Word)
  | hmacInit (h : CtxIx) (seed slen : Word)
  | hmacUpdate (h : CtxIx) (src len : Word)
  | hmacDigest (h : CtxIx) (dst : Word)
  | hctxClear (h : CtxIx)
  | blkPad (v : Format) (u : Option CtxIx) (dst src len : Word)
  | fieldEnc (v : Format) (u : Option CtxIx) (dst type src supplied declared : Word)
  | fieldDec (v : Format) (u : Option CtxIx) (dst src avail : Word)
  | fieldCount (v : Format) (n : Word)
  | fieldTerm (v : Format) (dst : Word)
  | rngBytes (dst n : Word)
  | rngByte
  | rngInt
  | rngLong
  | rngBound (b : Word)
  | rngSeed (src len : Word)
  | rngCycle (n : Word)
  | clrerr
deriving DecidableEq, Repr

/-- The `cmd` statement whose items are those of a command (R92). -/
def Stmt.cmdC (op : BitVec 8) (c : CtxIx) : Stmt := .cmd op c 0 false false false

/-- The `cmd` statement of a command with the field H (R92). -/
def Stmt.cmdH (op : BitVec 8) (h : CtxIx) : Stmt := .cmd op 0 h false false false

/-- The `cmd` statement of a codec command (R92). -/
def Stmt.cmdV (op : BitVec 8) (v : Format) (u : Option CtxIx) : Stmt :=
  .cmd op 0 (u.getD 0) u.isSome (formatBit v) false

/-- The register writes of a data command and its `cmd` (R93). -/
def dataStmts (op : BitVec 8) (c : CtxIx) (dst src len : Word) : List Stmt :=
  [.wr .src src, .wr .dst dst, .wr .len len, .cmdC op c]

/-- One `wb` per byte, at rising addresses (R93). -/
def dbStmts : Nat → List Byte → List Stmt
  | _, [] => []
  | addr, b :: bs => .wb addr b :: dbStmts (addr + 1) bs

/-- The expansion of a pseudo-instruction (R93). -/
def Pseudo.expand : Pseudo → List Stmt
  | .db addr bytes => dbStmts addr bytes
  | .bfKey c src len => [.wr .src src, .wr .len len, .cmdC 0x01 c]
  | .tfKey c src len => [.wr .src src, .wr .len len, .cmdC 0x02 c]
  | .cbcInit c iv => [.wr .src iv, .cmdC 0x03 c]
  | .cbcInit0 c => [.cmd 0x03 c 0 false false true]
  | .cfbInit c iv => [.wr .src iv, .cmdC 0x06 c]
  | .cfbInit0 c => [.cmd 0x06 c 0 false false true]
  | .ctxClear c => [.cmdC 0x04 c]
  | .bfWeak c => [.cmdC 0x05 c]
  | .ecbEnc c dst src len => dataStmts 0x10 c dst src len
  | .ecbDec c dst src len => dataStmts 0x11 c dst src len
  | .cbcEnc c dst src len => dataStmts 0x12 c dst src len
  | .cbcDec c dst src len => dataStmts 0x13 c dst src len
  | .cfbEnc c dst src len => dataStmts 0x14 c dst src len
  | .cfbDec c dst src len => dataStmts 0x15 c dst src len
  | .sha256 dst src len => dataStmts 0x20 0 dst src len
  | .genrandhash dst src => dataStmts 0x20 0 dst src 32
  | .kdf dst pass plen salt slen iter =>
    [.wr .src pass, .wr .dst dst, .wr .len plen, .wr .arg0 salt, .wr .arg1 slen, .wr .arg2 iter, .cmdC 0x21 0]
  | .hmacInit h seed slen => [.wr .src seed, .wr .len slen, .cmdH 0x28 h]
  | .hmacUpdate h src len => [.wr .src src, .wr .len len, .cmdH 0x29 h]
  | .hmacDigest h dst => [.wr .dst dst, .cmdH 0x2A h]
  | .hctxClear h => [.cmdH 0x2B h]
  | .blkPad v u dst src len => [.wr .src src, .wr .dst dst, .wr .len len, .cmdV 0x30 v u]
  | .fieldEnc v u dst type src supplied declared =>
    [.wr .src src, .wr .dst dst, .wr .len declared, .wr .arg0 supplied, .wr .arg1 type, .cmdV 0x31 v u]
  | .fieldDec v u dst src avail => [.wr .src src, .wr .dst dst, .wr .len avail, .cmdV 0x32 v u]
  | .fieldCount v n => [.wr .arg0 n, .cmdV 0x33 v none]
  | .fieldTerm v dst => [.wr .dst dst, .cmdV 0x34 v none]
  | .rngBytes dst n => [.wr .dst dst, .wr .len n, .cmdC 0x40 0]
  | .rngByte => [.cmdC 0x41 0]
  | .rngInt => [.cmdC 0x42 0]
  | .rngLong => [.cmdC 0x43 0]
  | .rngBound b => [.wr .arg0 b, .cmdC 0x44 0]
  | .rngSeed src len => [.wr .src src, .wr .len len, .cmdC 0x45 0]
  | .rngCycle n => [.wr .arg0 n, .cmdC 0x46 0]
  | .clrerr => [.wr .status 0x100]

/-- The operand registers that a command reads: the column "operand registers read" of R89. -/
def operandsRead : Instr → List Reg
  | .nop => []
  | .bfKey _ => [.src, .len]
  | .tfKey _ => [.src, .len]
  | .cbcInit _ z => if z then [] else [.src]
  | .ctxClear _ => []
  | .bfWeakchk _ => []
  | .cfbInit _ z => if z then [] else [.src]
  | .ecbEnc _ => [.src, .dst, .len]
  | .ecbDec _ => [.src, .dst, .len]
  | .cbcEnc _ => [.src, .dst, .len]
  | .cbcDec _ => [.src, .dst, .len]
  | .cfbEnc _ => [.src, .dst, .len]
  | .cfbDec _ => [.src, .dst, .len]
  | .sha256 => [.src, .dst, .len]
  | .kdf => [.src, .dst, .len, .arg0, .arg1, .arg2]
  | .hmacInit _ => [.src, .len]
  | .hmacUpdate _ => [.src, .len]
  | .hmacDigest _ => [.dst]
  | .hctxClear _ => []
  | .blkPad _ _ _ => [.src, .dst, .len]
  | .fieldEnc _ _ _ => [.src, .dst, .len, .arg0, .arg1]
  | .fieldDec _ _ _ => [.src, .dst, .len]
  | .fieldCount _ => [.arg0]
  | .fieldTerm _ => [.dst]
  | .rngBytes => [.dst, .len]
  | .rngByte => []
  | .rngInt => []
  | .rngLong => []
  | .rngBound => [.arg0]
  | .rngSeed => [.src, .len]
  | .rngCycle => [.arg0]

end Sys2Proof.Machine
end

