-- ==== Sys2Proof/Safety.lean ====
section
/-! DEFINITION. The terms that claims use: the invariant of the block's state, the order of a command's checks as the
table of R303 lists them (written independently of the meanings), and the DMEM region that a command writes (R79). -/
namespace Sys2Proof.Machine

/-! ## The invariant -/

/-- What holds of a cipher context in every state a block can be in (R31, R34, R35): the block size is the primitive's,
the vector is one block long, a context without a chaining mode has no direction, and no key material outlives its key. -/
structure CipherCtx.Ok (x : CipherCtx) : Prop where
  bs_eq : x.bs = match x.alg with
    | .none => 8
    | .bf => Config.bfBlockSize
    | .tf => Config.tfBlockSize
  vector_length : x.V.length = x.bs
  no_mode_no_dir : x.chain = .none → x.dir = .unset
  unkeyed_is_reset : x.alg = .none → x = CipherCtx.reset
  no_tf_key_under_bf : x.alg = .bf → x.tf = TfSched.zero
  no_bf_key_under_tf : x.alg = .tf → x.bf = BfSched.zero
  tf_key_words : x.alg = .tf → 1 ≤ x.tf.k ∧ x.tf.k ≤ 4
  tf_sbox_words : x.tf.Sk.length = x.tf.k

/-- What holds of an HMAC context (R36 to R38): the pending bytes are those of an incomplete block, the outer pad and the
digest have their sizes, an idle context holds nothing, and a finished one holds no inner state. -/
structure HmacCtx.Ok (y : HmacCtx) : Prop where
  pend_eq : y.ist.pend.length = y.ist.tot % 64
  okey_length : y.okey.length = 64
  memo_length : y.memo.length = 32
  idle_is_reset : y.phase = .idle → y = HmacCtx.reset
  done_no_inner : y.phase = .done → y.ist = ShaStream.zero
  accum_no_memo : y.phase = .accum → y.memo = zeros 32

/-- What holds of the generator (R39, R281): its buffers have their sizes, the period is at least 1 and the refills left
do not exceed it. -/
structure Rng.Ok (g : Rng) : Prop where
  rbuf_length : g.rbuf.length = 64
  ridx_le : g.ridx ≤ 64
  pool_length : g.pool.length = 32
  cycle_pos : g.rcycle ≠ 0
  rleft_le : g.rleft.toNat ≤ g.rcycle.toNat
  rseed_length : g.rseed.length ≤ Config.rngSeedMax

/-- What holds of the parameters (R8). -/
structure Params.Ok (p : Params) : Prop where
  dmem_aligned : p.dmemSize % 4 = 0
  dmem_min : 256 ≤ p.dmemSize
  dmem_max : p.dmemSize ≤ 2 ^ 24
  cycle_pos : p.rngCycleReset ≠ 0

/-- The invariant of the block. -/
structure State.Ok (s : State) : Prop where
  par : Params.Ok s.par
  nctx_pos : 1 ≤ s.nctx
  nctx_le : s.nctx ≤ 16
  nhctx_pos : 1 ≤ s.nhctx
  nhctx_le : s.nhctx ≤ 16
  mem_wf : s.mem.wf = true
  mem_in_dmem : ∀ cell ∈ s.mem, cell.1 < s.par.dmemSize
  ctx : ∀ x ∈ s.ctx, x.Ok
  hctx : ∀ y ∈ s.hctx, y.Ok
  rng : s.rng.Ok

/-! ## The order of the checks (R303) -/

/-- One entry of a command's list of checks. -/
inductive Gate where
  /-- The command fails with `e` when `p` holds. -/
  | fails (p : Bool) (e : ErrCode)
  /-- The command consumes these DMEM bytes, which must have been written (R78). -/
  | needs (a n : Nat)

/-- What a list of checks comes to. -/
inductive Verdict where
  | raises (e : ErrCode)
  | unreadable
  | passes
deriving DecidableEq, Repr

/-- The first entry that stops the command decides (R303). -/
def verdict (s : State) : List Gate → Verdict
  | [] => .passes
  | .fails p e :: gs => if p then .raises e else verdict s gs
  | .needs a n :: gs => if (s.mem.readBytes a n).isSome then verdict s gs else .unreadable

/-- The commands that run while STFAIL = 1 (R304). -/
def Instr.exempt : Instr → Bool
  | .nop => true
  | .ctxClear _ => true
  | .hctxClear _ => true
  | _ => false

/-- The cipher context that a command uses (R89). -/
def Instr.cipherIx : Instr → Option CtxIx
  | .bfKey c => some c
  | .tfKey c => some c
  | .cbcInit c _ => some c
  | .ctxClear c => some c
  | .bfWeakchk c => some c
  | .cfbInit c _ => some c
  | .ecbEnc c => some c
  | .ecbDec c => some c
  | .cbcEnc c => some c
  | .cbcDec c => some c
  | .cfbEnc c => some c
  | .cfbDec c => some c
  | _ => none

/-- The HMAC context that a command uses: that of the HMAC commands, and of a codec command with U = 1 (R89, R303). -/
def Instr.hmacIx : Instr → Option CtxIx
  | .hmacInit h => some h
  | .hmacUpdate h => some h
  | .hmacDigest h => some h
  | .hctxClear h => some h
  | .blkPad _ u h => if u then some h else none
  | .fieldEnc _ u h => if u then some h else none
  | .fieldDec _ u h => if u then some h else none
  | _ => none

/-- The cipher context `ctx[c]`. -/
def State.ctxAt (s : State) (c : CtxIx) : CipherCtx := s.ctx.getD c.toNat CipherCtx.reset

/-- The HMAC context `hctx[h]`. -/
def State.hctxAt (s : State) (h : CtxIx) : HmacCtx := s.hctx.getD h.toNat HmacCtx.reset

/-- An OutOfBounds entry for a region (R64). -/
def boundsGate (s : State) (a : Word) (n : Nat) : Gate := .fails (decide (s.par.dmemSize < a.toNat + n)) .outOfBounds

/-- `HmacCheck(H)` of R225 when U = 1. -/
def hmacGate (u : Bool) (h : CtxIx) (s : State) : Gate := .fails (u && (s.hctxAt h).phase != .accum) .stateError

/-- The data checks of R173 for a command of direction `d`; `mode` is `none` for ECB. -/
def dataGates (c : CtxIx) (mode : Chain) (d : Dir) (s : State) : List Gate :=
  [.fails ((s.ctxAt c).alg == .none) .notKeyed,
   .fails (s.len == 0 || s.len.toNat % (s.ctxAt c).bs != 0) .invalidLength,
   boundsGate s s.src s.len.toNat,
   boundsGate s s.dst s.len.toNat,
   .fails (mode != .none && (s.ctxAt c).chain != mode) .modeMismatch,
   .fails (mode != .none && (s.ctxAt c).dir != .unset && (s.ctxAt c).dir != d) .directionMismatch,
   .needs s.src.toNat s.len.toNat]

/-- The declared length in the header of the LEN wire bytes at SRC (R246). -/
def State.declaredLen (s : State) : Nat :=
  (s.mem.readBytes s.src.toNat s.len.toNat).elim 0 fun w => (le32 (slice w 0 4)).toNat

/-- The checks that come before a command's own: IllegalCommand, SelfTestFailed, BadContext (R303). -/
def commonGates (i : Instr) (s : State) : List Gate :=
  [.fails (!i.wellFormed) .illegalCommand,
   .fails (s.stfail && !Instr.exempt i) .selfTestFailed,
   .fails ((Instr.cipherIx i).elim false fun c => decide (s.nctx ≤ c.toNat)) .badContext,
   .fails ((Instr.hmacIx i).elim false fun h => decide (s.nhctx ≤ h.toNat)) .badContext]

/-- A command's own checks in the order of the table of R303, with the bytes it
consumes where it reads them. -/
def ownGates (i : Instr) (s : State) : List Gate :=
  match i with
  | .nop => []
  | .bfKey _ =>
    [.fails (s.len == 0 || decide (56 < s.len.toNat)) .invalidKeyLength,
     boundsGate s s.src s.len.toNat, .needs s.src.toNat s.len.toNat]
  | .tfKey _ =>
    [.fails (s.len != 8 && s.len != 16 && s.len != 24 && s.len != 32) .invalidKeyLength,
     boundsGate s s.src s.len.toNat, .needs s.src.toNat s.len.toNat]
  | .cbcInit c z | .cfbInit c z =>
    .fails ((s.ctxAt c).alg == .none) .notKeyed ::
      if z then [] else [boundsGate s s.src (s.ctxAt c).bs, .needs s.src.toNat (s.ctxAt c).bs]
  | .ctxClear _ => []
  | .bfWeakchk c =>
    [.fails ((s.ctxAt c).alg == .none) .notKeyed, .fails ((s.ctxAt c).alg == .tf) .modeMismatch]
  | .ecbEnc c => dataGates c .none .enc s
  | .ecbDec c => dataGates c .none .dec s
  | .cbcEnc c => dataGates c .cbc .enc s
  | .cbcDec c => dataGates c .cbc .dec s
  | .cfbEnc c => dataGates c .cfb .enc s
  | .cfbDec c => dataGates c .cfb .dec s
  | .sha256 => [boundsGate s s.src s.len.toNat, boundsGate s s.dst 32, .needs s.src.toNat s.len.toNat]
  | .kdf =>
    [.fails (decide (s.arg2.toNat < 2048)) .invalidParameter,
     boundsGate s s.src s.len.toNat, boundsGate s s.arg0 s.arg1.toNat, boundsGate s s.dst 32,
     .needs s.src.toNat s.len.toNat, .needs s.arg0.toNat s.arg1.toNat]
  | .hmacInit _ =>
    [.fails (decide (64 < s.len.toNat)) .invalidParameter,
     boundsGate s s.src s.len.toNat, .needs s.src.toNat s.len.toNat]
  | .hmacUpdate h =>
    [boundsGate s s.src s.len.toNat, .fails ((s.hctxAt h).phase != .accum) .stateError,
     .needs s.src.toNat s.len.toNat]
  | .hmacDigest h => [boundsGate s s.dst 32, .fails ((s.hctxAt h).phase == .idle) .stateError]
  | .hctxClear _ => []
  | .blkPad v u h =>
    [boundsGate s s.src s.len.toNat, boundsGate s s.dst (paddedLen s.len.toNat v), hmacGate u h s,
     .needs s.src.toNat s.len.toNat]
  | .fieldEnc v u h =>
    [.fails (decide (s.len.toNat < s.arg0.toNat)) .invalidLength,
     .fails (decide (255 < s.arg1.toNat)) .invalidParameter,
     .fails (s.arg1 == 255) .reservedType,
     boundsGate s s.src s.arg0.toNat, boundsGate s s.dst (wireLen s.len.toNat v), hmacGate u h s,
     .needs s.src.toNat s.arg0.toNat]
  | .fieldDec v u h =>
    [boundsGate s s.src s.len.toNat, hmacGate u h s,
     .fails (decide (s.len.toNat < codecBs v)) .truncated, .needs s.src.toNat s.len.toNat,
     .fails (decide (s.len.toNat < wireLen s.declaredLen v)) .truncated,
     boundsGate s s.dst s.declaredLen]
  | .fieldCount _ => []
  | .fieldTerm v => [boundsGate s s.dst (wireLen 0 v)]
  | .rngBytes => [boundsGate s s.dst s.len.toNat]
  | .rngByte => []
  | .rngInt => []
  | .rngLong => []
  | .rngBound => [.fails (s.arg0 == 0 || decide (0x7FFFFFFF < s.arg0.toNat)) .invalidParameter]
  | .rngSeed =>
    [.fails (decide (64 < s.len.toNat)) .invalidParameter,
     boundsGate s s.src s.len.toNat, .needs s.src.toNat s.len.toNat]
  | .rngCycle => [.fails (s.arg0 == 0) .invalidParameter]

/-- All checks of a command, in order (R303). -/
def gates (i : Instr) (s : State) : List Gate := commonGates i s ++ ownGates i s

/-! ## What a command writes (R79) -/

/-- The DMEM region `(address, length)` that a command writes when it succeeds (R79). -/
def writeRegion (i : Instr) (s : State) : Nat × Nat :=
  match i with
  | .ecbEnc _ | .ecbDec _ | .cbcEnc _ | .cbcDec _ | .cfbEnc _ | .cfbDec _ => (s.dst.toNat, s.len.toNat)
  | .sha256 | .kdf | .hmacDigest _ => (s.dst.toNat, 32)
  | .blkPad v _ _ => (s.dst.toNat, paddedLen s.len.toNat v)
  | .fieldEnc v _ _ => (s.dst.toNat, wireLen s.len.toNat v)
  | .fieldDec _ _ _ => (s.dst.toNat, s.declaredLen)
  | .fieldTerm v => (s.dst.toNat, wireLen 0 v)
  | .rngBytes => (s.dst.toNat, s.len.toNat)
  | .nop | .bfKey _ | .tfKey _ | .cbcInit _ _ | .ctxClear _ | .bfWeakchk _ | .cfbInit _ _ => (0, 0)
  | .hmacInit _ | .hmacUpdate _ | .hctxClear _ | .fieldCount _ => (0, 0)
  | .rngByte | .rngInt | .rngLong | .rngBound | .rngSeed | .rngCycle => (0, 0)

/-- The commands that draw random bytes or set up the generator: no other command changes it (R249, R275 to R281). -/
def Instr.touchesRng : Instr → Bool
  | .blkPad _ _ _ => true
  | .fieldEnc _ _ _ => true
  | .fieldTerm _ => true
  | .rngBytes => true
  | .rngByte => true
  | .rngInt => true
  | .rngLong => true
  | .rngBound => true
  | .rngSeed => true
  | .rngCycle => true
  | _ => false

/-- From `s` to `t` the byte string `bs` was written at `a`, and every other byte of DMEM reads as before. -/
def Wrote (s t : State) (a : Nat) (bs : List Byte) : Prop :=
  t.mem.readBytes a bs.length = some bs ∧ ∀ x, x < a ∨ a + bs.length ≤ x → t.mem.get x = s.mem.get x

/-- The next state of an outcome, where there is one. -/
def Res.state? : Res → Option State
  | .next s => some s
  | .fault _ => none
  | .refused _ => none

end Sys2Proof.Machine
end

