-- ==== Sys2Proof/Certificates/Slice0/Obligations.lean ====
section
/-! DEFINITION. The statements for the provers. Each docstring names the rules of spec/ that its statement rests on. -/

open Sys2Proof Sys2Proof.Machine

/-! ## Encoding -/

/-- R86, R88, R90: every well-formed command, with every value of its fields, is what its encoding decodes to. -/
def Obligations.DecodeInvertsEncode : Prop :=
  ∀ i : Instr, i.wellFormed = true → decode (encode i) = .ok i

/-- R88: each command has exactly one encoding: a word that decodes to `i` is the encoding of `i`. -/
def Obligations.EncodingIsUnique : Prop :=
  ∀ (w : Word) (i : Instr), decode w = .ok i → i.wellFormed = true ∧ encode i = w

/-- The opcodes that R91 lists as undefined. -/
def undefinedOpcode (op : Nat) : Prop :=
  (0x07 ≤ op ∧ op ≤ 0x0F) ∨ (0x16 ≤ op ∧ op ≤ 0x1F) ∨ (0x22 ≤ op ∧ op ≤ 0x27) ∨ (0x2C ≤ op ∧ op ≤ 0x2F) ∨
    (0x35 ≤ op ∧ op ≤ 0x3F) ∨ (0x47 ≤ op ∧ op ≤ 0xFF)

/-- R90, R91: a word with a nonzero reserved bit, with an undefined opcode, or that encodes no command at all raises
IllegalCommand, which changes STATUS only; and every other word runs exactly the command that it encodes. -/
def Obligations.IllegalWordsRaise : Prop :=
  ∀ (w : Word) (s : State),
    ((w.extractLsb' 19 13 ≠ 0 ∨ undefinedOpcode (w.extractLsb' 0 8).toNat ∨
        (∀ i : Instr, i.wellFormed = true → encode i ≠ w)) →
      runCommand w s = .next { s with errcode := .illegalCommand, errseen := true }) ∧
    (∀ i : Instr, i.wellFormed = true → encode i = w → runCommand w s = exec i s)

/-- R94: the encoding examples. -/
def Obligations.EncodingExamples : Prop :=
  (encode (.bfKey 1) = 0x00000101 ∧ decode 0x00000101 = .ok (.bfKey 1)) ∧
  (encode (.cbcInit 0 true) = 0x00040003 ∧ decode 0x00040003 = .ok (.cbcInit 0 true)) ∧
  (encode (.fieldEnc .v3 true 0) = 0x00030031 ∧ decode 0x00030031 = .ok (.fieldEnc .v3 true 0)) ∧
  (encode (.fieldDec .v3 false 0) = 0x00020032 ∧ decode 0x00020032 = .ok (.fieldDec .v3 false 0)) ∧
  (encode (.hmacDigest 1) = 0x0000102A ∧ decode 0x0000102A = .ok (.hmacDigest 1)) ∧
  (encode .sha256 = 0x00000020 ∧ decode 0x00000020 = .ok .sha256) ∧
  (∀ s, runCommand 0x00000120 s = .next { s with errcode := .illegalCommand, errseen := true }) ∧
  (∀ s, runCommand 0x00080000 s = .next { s with errcode := .illegalCommand, errseen := true })

/-! ## The step and the host port -/

/-- R23, R73, R90: when the host's next access is the write of a command word to CMD, the step stores the word in CMD and
is `exec` of the command that the word decodes to, or IllegalCommand where it decodes to none; the access is consumed and
nothing else is added. The same holds of a table word placed by `withFetchWord`. With no access pending the block holds
its state (R316). The queue of accesses is the model's own (notes/assumptions/1.md and 2.md). -/
def Obligations.StepRunsTheDecodedCommand : Prop :=
  (∀ (s : State) (w : Word) (rest : List HostOp) (i : Instr),
    s.port = .writeReg .w32 0x00 w :: rest → decode w = .ok i →
      step s = exec i { s with port := rest, cmd := w }) ∧
  (∀ (s : State) (w : Word) (rest : List HostOp) (r : Illegal),
    s.port = .writeReg .w32 0x00 w :: rest → decode w = .error r →
      step s = .next { s with port := rest, cmd := w, errcode := .illegalCommand, errseen := true }) ∧
  (∀ (s : State) (nbits w : Nat) (i : Instr), decodeTableWord nbits w = some i →
      step (s.withFetchWord nbits w) = exec i { s with cmd := BitVec.ofNat 32 (w % 2 ^ nbits) }) ∧
  (∀ s : State, s.port = [] → step s = .next s)

/-- R66: a register access of 32 bits at a multiple of 4 below 0x100 is served, any other ends in a bus error of the
host port and yields no next state; a served read returns the register, and no served write, not even one that runs a
command, ends in a bus error. -/
def Obligations.RegisterAccessRule : Prop :=
  ∀ (s : State) (rest : List HostOp) (w : Width) (o : Nat) (x : Word),
    (s.port = .readReg w o :: rest →
      if w = .w32 ∧ o % 4 = 0 ∧ o < 0x100 then
        step s = .next { s with port := rest, rdata := some (s.readReg (regAt o)) }
      else step s = .fault .busErrorRegister) ∧
    (s.port = .writeReg w o x :: rest →
      if w = .w32 ∧ o % 4 = 0 ∧ o < 0x100 then ∀ f, step s ≠ .fault f
      else step s = .fault .busErrorRegister)

/-- R29: a read of a reserved offset returns 0, and a write to a reserved offset or to a read-only register is ignored. -/
def Obligations.ReservedAndReadOnlyRegisters : Prop :=
  ∀ (s : State) (rest : List HostOp) (o : Nat), o % 4 = 0 →
    (0x34 ≤ o ∧ o ≤ 0xFC →
      (s.port = .readReg .w32 o :: rest → step s = .next { s with port := rest, rdata := some 0 }) ∧
      (∀ x, s.port = .writeReg .w32 o x :: rest → step s = .next { s with port := rest })) ∧
    (o = 0x20 ∨ o = 0x24 ∨ o = 0x28 ∨ o = 0x2C ∨ o = 0x30 →
      ∀ x, s.port = .writeReg .w32 o x :: rest → step s = .next { s with port := rest })

/-- R21, R23, R25, R26: a host write of an operand register takes effect and changes nothing else, and a read of CMD, of an
operand register or of a RESULT register returns the value it holds. -/
def Obligations.OperandRegisters : Prop :=
  ∀ (s : State) (rest : List HostOp) (x : Word),
    (s.port = .writeReg .w32 0x04 x :: rest → step s = .next { s with port := rest, src := x }) ∧
    (s.port = .writeReg .w32 0x08 x :: rest → step s = .next { s with port := rest, dst := x }) ∧
    (s.port = .writeReg .w32 0x0C x :: rest → step s = .next { s with port := rest, len := x }) ∧
    (s.port = .writeReg .w32 0x10 x :: rest → step s = .next { s with port := rest, arg0 := x }) ∧
    (s.port = .writeReg .w32 0x14 x :: rest → step s = .next { s with port := rest, arg1 := x }) ∧
    (s.port = .writeReg .w32 0x18 x :: rest → step s = .next { s with port := rest, arg2 := x }) ∧
    (∀ q ∈ [(0x00, s.cmd), (0x04, s.src), (0x08, s.dst), (0x0C, s.len), (0x10, s.arg0), (0x14, s.arg1), (0x18, s.arg2),
        (0x20, s.result0), (0x24, s.result1), (0x28, s.result2)],
      s.port = .readReg .w32 q.1 :: rest → step s = .next { s with port := rest, rdata := some q.2 })

/-- R24, R300: the layout of STATUS as a read returns it, the numbers of the outcomes in it, and the effect of a host write
to it. -/
def Obligations.StatusRegister : Prop :=
  [ErrCode.ok, .invalidLength, .directionMismatch, .invalidKeyLength, .notKeyed, .badContext, .outOfBounds, .reservedType,
    .truncated, .stateError, .selfTestFailed, .illegalCommand, .invalidParameter, .modeMismatch].map ErrCode.code =
    [0x00, 0x01, 0x02, 0x03, 0x04, 0x05, 0x06, 0x07, 0x08, 0x09, 0x0A, 0x0B, 0x0C, 0x0D] ∧
  (∀ (s : State) (rest : List HostOp) (x : Word),
    (s.port = .readReg .w32 0x1C :: rest → ∃ st : Word,
      step s = .next { s with port := rest, rdata := some st } ∧
      st.extractLsb' 0 8 = s.errcode.code ∧ st.getLsbD 8 = s.errseen ∧ st.getLsbD 9 = s.stfail ∧
      st.extractLsb' 10 22 = 0) ∧
    (s.port = .writeReg .w32 0x1C x :: rest →
      step s = .next { s with port := rest, errseen := if x.getLsbD 8 then false else s.errseen }))

/-- R27, R28: the fields of CAPS and the value of DMEMSZ, for every block within the ranges of R8; and no step changes
either, so that both are constants. -/
def Obligations.CapabilityRegisters : Prop :=
  ∀ s : State, s.Ok →
    ((s.readReg (regAt 0x2C)).extractLsb' 0 8).toNat = s.nctx ∧
    ((s.readReg (regAt 0x2C)).extractLsb' 8 8).toNat = s.nhctx ∧
    (s.readReg (regAt 0x2C)).extractLsb' 16 8 = 0x01 ∧
    ((s.readReg (regAt 0x2C)).getLsbD 24 = true ↔ s.par.tf64 = .k1) ∧
    (s.readReg (regAt 0x2C)).extractLsb' 25 7 = 0 ∧
    (s.readReg (regAt 0x30)).toNat = s.par.dmemSize ∧
    ∀ t, step s = .next t → t.readReg (regAt 0x2C) = s.readReg (regAt 0x2C) ∧
      t.readReg (regAt 0x30) = s.readReg (regAt 0x30)

/-- R67, R78: host accesses to DMEM: natural alignment and bounds or a bus error, little-endian values, and the refusal
of a read of a byte that was never written. That a narrow read gives zeros above and a narrow write takes the low bits is the
model's reading (notes/assumptions/12.md). -/
def Obligations.HostDmemAccess : Prop :=
  ∀ (s : State) (rest : List HostOp) (w : Width) (a : Nat) (x : Word),
    (s.port = .readMem w a :: rest →
      if a % w.bytes = 0 ∧ a + w.bytes ≤ s.par.dmemSize then
        (∀ b, s.mem.readBytes a w.bytes = some b →
          ∃ v : Word, step s = .next { s with port := rest, rdata := some v } ∧
            v.toNat = (b.getD 0 0).toNat + 256 * (b.getD 1 0).toNat + 65536 * (b.getD 2 0).toNat +
              16777216 * (b.getD 3 0).toNat) ∧
        (s.mem.readBytes a w.bytes = none → step s = .refused .unwrittenDmem)
      else step s = .fault .busErrorDmem) ∧
    (s.port = .writeMem w a x :: rest →
      if a % w.bytes = 0 ∧ a + w.bytes ≤ s.par.dmemSize then
        ∃ t, step s = .next t ∧ { t with mem := s.mem } = { s with port := rest } ∧
          Wrote s t a ((List.range w.bytes).map fun i => x.extractLsb' (8 * i) 8)
      else step s = .fault .busErrorDmem)

/-- R68: after a 32-bit host write, a read of any byte or aligned half of it returns that part of the value, with
zeros above it (the model's reading, notes/assumptions/12.md). -/
def Obligations.MixedWidthAccess : Prop :=
  ∀ (s t : State) (rest : List HostOp) (a : Nat) (x : Word) (op : HostOp),
    s.port = .writeMem .w32 a x :: op :: rest → step s = .next t →
      (∀ i, i < 4 → op = .readMem .w8 (a + i) →
        step t = .next { t with port := rest, rdata := some ((x.extractLsb' (8 * i) 8).setWidth 32) }) ∧
      (∀ i, i < 2 → op = .readMem .w16 (a + 2 * i) →
        step t = .next { t with port := rest, rdata := some ((x.extractLsb' (16 * i) 16).setWidth 32) }) ∧
      (op = .readMem .w32 a → step t = .next { t with port := rest, rdata := some x })

/-- R69: a host read changes no state of the block: only the pending access is gone and its value returned. -/
def Obligations.HostReadsHaveNoSideEffect : Prop :=
  ∀ (s t : State) (op : HostOp) (rest : List HostOp), s.port = op :: rest → step s = .next t →
    ((∃ w o, op = .readReg w o) ∨ ∃ w a, op = .readMem w a) → t = { s with port := rest, rdata := t.rdata }

/-- R93, R336: every pseudo-instruction but `db` and `clrerr` writes operand registers and then CMD once, with the word of
a legal command, and it writes every operand register that the command reads. -/
def Obligations.PseudoInstructionsWriteTheirOperands : Prop :=
  ∀ p : Pseudo, (∀ a b, p ≠ .db a b) → p ≠ .clrerr →
    ∃ (ws : List (Reg × Word)) (i : Instr),
      p.expand.map Stmt.op =
        ws.map (fun w => .writeReg .w32 w.1.offset w.2) ++ [.writeReg .w32 0x00 (encode i)] ∧
      decode (encode i) = .ok i ∧
      (∀ w ∈ ws, w.1 ∈ [Reg.src, .dst, .len, .arg0, .arg1, .arg2]) ∧
      ∀ r ∈ operandsRead i, ∃ x, (r, x) ∈ ws

/-! ## Reset -/

/-- R332: what the platform's reset leaves, whatever the state before it and whatever the verdict of the self-test; every
DMEM byte is then without a value. The parameters and the pending accesses of the host stay (the model's own queue,
notes/assumptions/1.md). -/
def Obligations.PlatformReset : Prop :=
  ∀ (s : State) (rest : List HostOp) (pass : Bool), s.port = .reset pass :: rest →
    ∃ t, step s = .next t ∧
      t.cmd = 0 ∧ t.src = 0 ∧ t.dst = 0 ∧ t.len = 0 ∧ t.arg0 = 0 ∧ t.arg1 = 0 ∧ t.arg2 = 0 ∧
      t.result0 = 0 ∧ t.result1 = 0 ∧ t.result2 = 0 ∧
      t.stfail = !pass ∧ t.errseen = false ∧ t.errcode.code = (if t.stfail then 0x0A else 0x00) ∧
      t.ctx.length = s.ctx.length ∧ (∀ x ∈ t.ctx, x = CipherCtx.reset) ∧
      t.hctx.length = s.hctx.length ∧ (∀ y ∈ t.hctx, y = HmacCtx.reset) ∧
      t.rng.rbuf = zeros 64 ∧ t.rng.ridx = 64 ∧ t.rng.pool = zeros 32 ∧ t.rng.rctr = 0 ∧ t.rng.rleft = 0 ∧
      t.rng.rcycle = s.par.rngCycleReset ∧ t.rng.rseed = [] ∧
      (∀ a, t.mem.get a = none) ∧ t.par = s.par ∧ t.port = rest

/-- R35: the reset value of a cipher context, in the reset state and after CTX_CLEAR. That an all-zero Twofish schedule has
no key words is the model's choice (notes/assumptions/14.md). -/
def Obligations.CipherContextResetValue : Prop :=
  CipherCtx.reset = { alg := .none, bf := { P := Vector.replicate 18 0, S := Vector.replicate 4 (Vector.replicate 256 0) },
                      tf := { k := 0, K := Vector.replicate 40 0, Sk := [] }, bs := 8, chain := .none,
                      V := zeros 8, dir := .unset } ∧
  (∀ x ∈ State.reset.ctx, x = CipherCtx.reset) ∧
  (∀ (s : State) (c : CtxIx), c.toNat < s.nctx →
    exec (.ctxClear c) s = .next { s with ctx := s.ctx.set c.toNat CipherCtx.reset, errcode := .ok })

/-- R38: the reset value of an HMAC context, in the reset state and after HCTX_CLEAR. -/
def Obligations.HmacContextResetValue : Prop :=
  HmacCtx.reset = { phase := .idle, ist := { Hs := ⟨0, 0, 0, 0, 0, 0, 0, 0⟩, pend := [], tot := 0 },
                    okey := zeros 64, memo := zeros 32 } ∧
  (∀ y ∈ State.reset.hctx, y = HmacCtx.reset) ∧
  (∀ (s : State) (h : CtxIx), h.toNat < s.nhctx →
    exec (.hctxClear h) s = .next { s with hctx := s.hctx.set h.toNat HmacCtx.reset, errcode := .ok })

/-! ## The invariant and the rules of the whole machine -/

/-- The invariant holds at reset (R332, R34). It covers the model's choices of notes/assumptions/6.md, 8.md and 14.md. -/
def Obligations.OkHoldsAtReset : Prop := State.reset.Ok

/-- R31, R34, R36, R39, R78: every step, whatever the host does next, keeps the invariant: the canonical form of DMEM,
the sizes of every buffer and vector, the lock discipline of the contexts, and that no key outlives its context's key. -/
def Obligations.EveryStepKeepsOk : Prop :=
  ∀ s t : State, s.Ok → step s = .next t → t.Ok

/-- R301 to R304, R78: for every command and every state, the first check of the R303 order that fails gives the error,
and the command then changes STATUS only; where a consumed byte was never written the model refuses; and where every
check passes the command completes with the outcome OK. That a check before the consumption wins over the refusal is
deduced (notes/assumptions/9.md), and how a term without an encoding is answered is the model's choice
(notes/assumptions/16.md). -/
def Obligations.FirstFailingCheckDecides : Prop :=
  ∀ (i : Instr) (s : State),
    match verdict s (gates i s) with
    | .raises e => exec i s = .next { s with errcode := e, errseen := true }
    | .unreadable => exec i s = .refused .unwrittenDmem
    | .passes => ∃ t, exec i s = .next t ∧ t.errcode = .ok

/-- R302: how the end of a command changes STATUS, and that a failing command changes nothing else; ERRSEEN is sticky:
only a host write to STATUS with bit 8 set, or reset, clears it. -/
def Obligations.StatusAtTheEndOfACommand : Prop :=
  (∀ (i : Instr) (s t : State), exec i s = .next t →
    (t.errcode = .ok ∧ t.errcode.code = 0x00 ∧ t.errseen = s.errseen) ∨
    (t.errcode ≠ .ok ∧ t = { s with errcode := t.errcode, errseen := true })) ∧
  (∀ s t : State, step s = .next t → s.errseen = true → t.errseen = false →
    ∃ op rest, s.port = op :: rest ∧ ((∃ x, op = .writeReg .w32 0x1C x ∧ x.getLsbD 8 = true) ∨ ∃ p, op = .reset p))

/-- R304: while STFAIL = 1 every command but NOP, CTX_CLEAR and HCTX_CLEAR raises SelfTestFailed before any other check;
the three exempt commands still succeed; and only reset changes STFAIL. -/
def Obligations.SelfTestLock : Prop :=
  (∀ (i : Instr) (s : State), s.stfail = true → i.wellFormed = true →
    i ≠ .nop → (∀ c, i ≠ .ctxClear c) → (∀ h, i ≠ .hctxClear h) →
      exec i s = .next { s with errcode := .selfTestFailed, errseen := true }) ∧
  (∀ s : State, s.stfail = true →
    (∃ t, exec .nop s = .next t ∧ t.errcode = .ok) ∧
    (∀ c : CtxIx, c.toNat < s.nctx → ∃ t, exec (.ctxClear c) s = .next t ∧ t.errcode = .ok) ∧
    (∀ h : CtxIx, h.toNat < s.nhctx → ∃ t, exec (.hctxClear h) s = .next t ∧ t.errcode = .ok)) ∧
  (∀ s t : State, step s = .next t → t.stfail ≠ s.stfail → ∃ p rest, s.port = .reset p :: rest)

/-- R21, R23, R301: no command changes CMD or an operand register, nor STFAIL, the parameters or the host's side. -/
def Obligations.CommandsKeepOperands : Prop :=
  ∀ (i : Instr) (s t : State), exec i s = .next t →
    t.cmd = s.cmd ∧ t.src = s.src ∧ t.dst = s.dst ∧ t.len = s.len ∧ t.arg0 = s.arg0 ∧ t.arg1 = s.arg1 ∧
    t.arg2 = s.arg2 ∧ t.stfail = s.stfail ∧ t.par = s.par ∧ t.port = s.port ∧ t.rdata = s.rdata

/-- R79: a command that succeeds writes the whole of its region, computed as its rule computes it, and no other DMEM byte;
a failing command writes no DMEM byte. -/
def Obligations.WriteFootprint : Prop :=
  ∀ (i : Instr) (s t : State), s.Ok → exec i s = .next t →
    (t.errcode ≠ .ok → t.mem = s.mem) ∧
    (t.errcode = .ok →
      (∀ a, a < (writeRegion i s).1 ∨ (writeRegion i s).1 + (writeRegion i s).2 ≤ a → t.mem.get a = s.mem.get a) ∧
      (∀ a, (writeRegion i s).1 ≤ a → a < (writeRegion i s).1 + (writeRegion i s).2 → ∃ b, t.mem.get a = some b))

/-- R31, R36, R226, R272: a command changes no cipher context but the one it names, no HMAC context but the one it uses,
and the generator only if it draws from it or sets it up; an unused context keeps its place. -/
def Obligations.ContextIsolation : Prop :=
  ∀ (i : Instr) (s t : State), exec i s = .next t →
    t.ctx.length = s.ctx.length ∧ t.hctx.length = s.hctx.length ∧
    (∀ j, (∀ c, Instr.cipherIx i = some c → c.toNat ≠ j) → t.ctx[j]? = s.ctx[j]?) ∧
    (∀ j, (∀ h, Instr.hmacIx i = some h → h.toNat ≠ j) → t.hctx[j]? = s.hctx[j]?) ∧
    (Instr.touchesRng i = false → t.rng = s.rng)

/-- R25: a RESULT register changes only by a command that succeeds and whose rule names it. -/
def Obligations.ResultRegistersKept : Prop :=
  ∀ (i : Instr) (s t : State), exec i s = .next t →
    (t.result0 ≠ s.result0 → t.errcode = .ok ∧
      ((∃ c, i = .bfWeakchk c) ∨ (∃ v u h, i = .blkPad v u h) ∨ (∃ v u h, i = .fieldEnc v u h) ∨
        (∃ v u h, i = .fieldDec v u h) ∨ (∃ v, i = .fieldCount v) ∨ (∃ v, i = .fieldTerm v) ∨
        i = .rngByte ∨ i = .rngInt ∨ i = .rngLong ∨ i = .rngBound)) ∧
    (t.result1 ≠ s.result1 → t.errcode = .ok ∧
      ((∃ v u h, i = .fieldEnc v u h) ∨ (∃ v u h, i = .fieldDec v u h) ∨ (∃ v, i = .fieldTerm v) ∨ i = .rngLong)) ∧
    (t.result2 ≠ s.result2 → t.errcode = .ok ∧ ∃ v u h, i = .fieldDec v u h)

/-- R34: the direction of a context leaves UNSET only through a CBC or CFB data command, and becomes UNSET again only
through re-keying, re-initialisation or CTX_CLEAR. -/
def Obligations.DirectionChanges : Prop :=
  ∀ (i : Instr) (s t : State) (j : Nat) (x y : CipherCtx), exec i s = .next t →
    s.ctx[j]? = some x → t.ctx[j]? = some y → x.dir ≠ y.dir →
      t.errcode = .ok ∧ ∃ c : CtxIx, c.toNat = j ∧
        ((x.dir = .unset ∧ (i = .cbcEnc c ∨ i = .cfbEnc c) ∧ y.dir = .enc) ∨
         (x.dir = .unset ∧ (i = .cbcDec c ∨ i = .cfbDec c) ∧ y.dir = .dec) ∨
         (y.dir = .unset ∧ (i = .bfKey c ∨ i = .tfKey c ∨ (∃ z, i = .cbcInit c z) ∨ (∃ z, i = .cfbInit c z) ∨
           i = .ctxClear c)))

/-- R181: once a chained data command has succeeded on a context, a command of the other direction on it fails and
changes nothing but STATUS, and where its earlier checks pass the error is DirectionMismatch. `s'` is any later state in
which that context is as the first command left it. -/
def Obligations.DirectionLock : Prop :=
  ∀ (c : CtxIx) (s t s' r : State) (e d : Instr),
    ((e, d) = (.cbcEnc c, .cbcDec c) ∨ (e, d) = (.cbcDec c, .cbcEnc c) ∨ (e, d) = (.cfbEnc c, .cfbDec c) ∨
      (e, d) = (.cfbDec c, .cfbEnc c)) →
    exec e s = .next t → t.errcode = .ok → s'.ctx[c.toNat]? = t.ctx[c.toNat]? →
      (exec d s' = .next r → r.errcode ≠ .ok ∧ r = { s' with errcode := r.errcode, errseen := true }) ∧
      (∀ x, s'.ctx[c.toNat]? = some x → s'.stfail = false → s'.len ≠ 0 → s'.len.toNat % x.bs = 0 →
        s'.inBounds s'.src s'.len.toNat → s'.inBounds s'.dst s'.len.toNat →
          exec d s' = .next { s' with errcode := .directionMismatch, errseen := true })

/-! ## What each command does

Each statement gives the next state of the command, and with it the frame: what is not written in the record on the right
is as it was. Memory is stated through the read of a byte (`Wrote`). -/

/-- R307: NOP changes nothing but ERRCODE, with STFAIL = 1 too; its encoding is the reset value of CMD. -/
def Obligations.NopEffect : Prop :=
  (∀ s : State, exec .nop s = .next { s with errcode := .ok }) ∧ encode .nop = State.reset.cmd ∧ State.reset.cmd = 0

/-- R116: BF_KEY keys the context, and the old key, vector and direction are gone. -/
def Obligations.BfKeyEffect : Prop :=
  ∀ (s : State) (c : CtxIx) (k : List Byte), s.stfail = false → c.toNat < s.nctx → 1 ≤ s.len.toNat →
    s.len.toNat ≤ 56 → s.src.toNat + s.len.toNat ≤ s.par.dmemSize →
    s.mem.readBytes s.src.toNat s.len.toNat = some k →
      exec (.bfKey c) s = .next { s with
        ctx := s.ctx.set c.toNat { alg := .bf, bf := bfKeySchedule k, tf := TfSched.zero, bs := 8, chain := .none,
                                   V := zeros 8, dir := .unset }
        errcode := .ok }

/-- R150, R149: TF_KEY keys the context; an 8-byte key is scheduled as TF64_RULE says, every other key as it is. -/
def Obligations.TfKeyEffect : Prop :=
  ∀ (s : State) (c : CtxIx) (m : List Byte), s.stfail = false → c.toNat < s.nctx →
    (s.len = 8 ∨ s.len = 16 ∨ s.len = 24 ∨ s.len = 32) → s.src.toNat + s.len.toNat ≤ s.par.dmemSize →
    s.mem.readBytes s.src.toNat s.len.toNat = some m →
      exec (.tfKey c) s = .next { s with
        ctx := s.ctx.set c.toNat
          { alg := .tf
            bf := BfSched.zero
            tf := tfKeySchedule (if s.len = 8 ∧ s.par.tf64 = .pad128 then m ++ zeros 8 else m)
            bs := 16, chain := .none, V := zeros 16, dir := .unset }
        errcode := .ok }

/-- R170, R171: CBC_INIT and CFB_INIT set the vector and the mode and clear the direction lock; the key stays. With Z = 1
the vector is zero and SRC is not read. -/
def Obligations.ChainInitEffect : Prop :=
  ∀ (s : State) (c : CtxIx) (x : CipherCtx), s.stfail = false → s.ctx[c.toNat]? = some x → x.alg ≠ .none →
    (exec (.cbcInit c true) s = .next { s with
        ctx := s.ctx.set c.toNat { x with V := zeros x.bs, chain := .cbc, dir := .unset }, errcode := .ok }) ∧
    (exec (.cfbInit c true) s = .next { s with
        ctx := s.ctx.set c.toNat { x with V := zeros x.bs, chain := .cfb, dir := .unset }, errcode := .ok }) ∧
    (∀ iv, s.src.toNat + x.bs ≤ s.par.dmemSize → s.mem.readBytes s.src.toNat x.bs = some iv →
      exec (.cbcInit c false) s = .next { s with
        ctx := s.ctx.set c.toNat { x with V := iv, chain := .cbc, dir := .unset }, errcode := .ok } ∧
      exec (.cfbInit c false) s = .next { s with
        ctx := s.ctx.set c.toNat { x with V := iv, chain := .cfb, dir := .unset }, errcode := .ok })

/-- R117: BF_WEAKCHK reports in RESULT0 whether two entries of one keyed S-box are equal; it changes no context. -/
def Obligations.BfWeakchkEffect : Prop :=
  ∀ (s : State) (c : CtxIx) (x : CipherCtx), s.stfail = false → s.ctx[c.toNat]? = some x →
    (x.alg = .none → exec (.bfWeakchk c) s = .next { s with errcode := .notKeyed, errseen := true }) ∧
    (x.alg = .tf → exec (.bfWeakchk c) s = .next { s with errcode := .modeMismatch, errseen := true }) ∧
    (x.alg = .bf → ∃ t, exec (.bfWeakchk c) s = .next t ∧
      { t with result0 := s.result0 } = { s with errcode := .ok } ∧
      ((∃ (b : Fin 4) (i j : Fin 256), i ≠ j ∧ (x.bf.S[b])[i] = (x.bf.S[b])[j]) → t.result0 = 1) ∧
      ((∀ (b : Fin 4) (i j : Fin 256), i ≠ j → (x.bf.S[b])[i] ≠ (x.bf.S[b])[j]) → t.result0 = 0))

/-- The operands of a data command pass the checks of R173: `x` is the keyed context and `p` the bytes of SRC. -/
structure DataReady (s : State) (c : CtxIx) (x : CipherCtx) (p : List Byte) : Prop where
  unlocked : s.stfail = false
  ctx : s.ctx[c.toNat]? = some x
  ok : x.Ok
  keyed : x.alg ≠ .none
  len_pos : s.len ≠ 0
  len_mult : s.len.toNat % x.bs = 0
  src_in : s.src.toNat + s.len.toNat ≤ s.par.dmemSize
  dst_in : s.dst.toNat + s.len.toNat ≤ s.par.dmemSize
  bytes : s.mem.readBytes s.src.toNat s.len.toNat = some p

/-- R174, R175: ECB ciphers each block on its own, from SRC to DST; only DST and ERRCODE change. -/
def Obligations.EcbEffect : Prop :=
  ∀ (s : State) (c : CtxIx) (x : CipherCtx) (p : List Byte), DataReady s c x p →
    (∃ t out, exec (.ecbEnc c) s = .next t ∧ { t with mem := s.mem } = { s with errcode := .ok } ∧
      out.length = s.len.toNat ∧ Wrote s t s.dst.toNat out ∧
      ∀ i, i < s.len.toNat / x.bs → slice out (i * x.bs) x.bs = x.blockEnc (slice p (i * x.bs) x.bs)) ∧
    (∃ t out, exec (.ecbDec c) s = .next t ∧ { t with mem := s.mem } = { s with errcode := .ok } ∧
      out.length = s.len.toNat ∧ Wrote s t s.dst.toNat out ∧
      ∀ i, i < s.len.toNat / x.bs → slice out (i * x.bs) x.bs = x.blockDec (slice p (i * x.bs) x.bs))

/-- The block before block `i` of a chain, or the vector `v` before the first (R176 to R179). -/
def chainPrev (v out : List Byte) (bs i : Nat) : List Byte := if i = 0 then v else slice out ((i - 1) * bs) bs

/-- R176: CBC_ENC: each block is XORed with the ciphertext block before it and enciphered; the vector becomes the last
ciphertext block and the direction ENC. -/
def Obligations.CbcEncEffect : Prop :=
  ∀ (s : State) (c : CtxIx) (x : CipherCtx) (p : List Byte), DataReady s c x p → x.chain = .cbc →
    (x.dir = .unset ∨ x.dir = .enc) →
      ∃ t out, exec (.cbcEnc c) s = .next t ∧ out.length = s.len.toNat ∧ Wrote s t s.dst.toNat out ∧
        { t with mem := s.mem } = { s with
          ctx := s.ctx.set c.toNat { x with V := slice out (s.len.toNat - x.bs) x.bs, dir := .enc }, errcode := .ok } ∧
        ∀ i, i < s.len.toNat / x.bs →
          slice out (i * x.bs) x.bs = x.blockEnc (xorBytes (slice p (i * x.bs) x.bs) (chainPrev x.V out x.bs i))

/-- R177: CBC_DEC: each block is deciphered and XORed with the ciphertext block before it; the vector becomes the last
ciphertext block and the direction DEC. -/
def Obligations.CbcDecEffect : Prop :=
  ∀ (s : State) (c : CtxIx) (x : CipherCtx) (p : List Byte), DataReady s c x p → x.chain = .cbc →
    (x.dir = .unset ∨ x.dir = .dec) →
      ∃ t out, exec (.cbcDec c) s = .next t ∧ out.length = s.len.toNat ∧ Wrote s t s.dst.toNat out ∧
        { t with mem := s.mem } = { s with
          ctx := s.ctx.set c.toNat { x with V := slice p (s.len.toNat - x.bs) x.bs, dir := .dec }, errcode := .ok } ∧
        ∀ i, i < s.len.toNat / x.bs →
          slice out (i * x.bs) x.bs = xorBytes (x.blockDec (slice p (i * x.bs) x.bs)) (chainPrev x.V p x.bs i)

/-- R178: CFB_ENC: each block is XORed with the enciphered block before it in the ciphertext. -/
def Obligations.CfbEncEffect : Prop :=
  ∀ (s : State) (c : CtxIx) (x : CipherCtx) (p : List Byte), DataReady s c x p → x.chain = .cfb →
    (x.dir = .unset ∨ x.dir = .enc) →
      ∃ t out, exec (.cfbEnc c) s = .next t ∧ out.length = s.len.toNat ∧ Wrote s t s.dst.toNat out ∧
        { t with mem := s.mem } = { s with
          ctx := s.ctx.set c.toNat { x with V := slice out (s.len.toNat - x.bs) x.bs, dir := .enc }, errcode := .ok } ∧
        ∀ i, i < s.len.toNat / x.bs →
          slice out (i * x.bs) x.bs = xorBytes (slice p (i * x.bs) x.bs) (x.blockEnc (chainPrev x.V out x.bs i))

/-- R179: CFB_DEC: the same keystream, with the vector taken from the ciphertext just consumed. -/
def Obligations.CfbDecEffect : Prop :=
  ∀ (s : State) (c : CtxIx) (x : CipherCtx) (p : List Byte), DataReady s c x p → x.chain = .cfb →
    (x.dir = .unset ∨ x.dir = .dec) →
      ∃ t out, exec (.cfbDec c) s = .next t ∧ out.length = s.len.toNat ∧ Wrote s t s.dst.toNat out ∧
        { t with mem := s.mem } = { s with
          ctx := s.ctx.set c.toNat { x with V := slice p (s.len.toNat - x.bs) x.bs, dir := .dec }, errcode := .ok } ∧
        ∀ i, i < s.len.toNat / x.bs →
          slice out (i * x.bs) x.bs = xorBytes (slice p (i * x.bs) x.bs) (x.blockEnc (chainPrev x.V p x.bs i))

/-- R203: SHA256 writes the digest of the bytes of SRC to DST. -/
def Obligations.Sha256Effect : Prop :=
  ∀ (s : State) (m : List Byte), s.stfail = false → s.src.toNat + s.len.toNat ≤ s.par.dmemSize →
    s.dst.toNat + 32 ≤ s.par.dmemSize → s.mem.readBytes s.src.toNat s.len.toNat = some m →
      ∃ t, exec .sha256 s = .next t ∧ { t with mem := s.mem } = { s with errcode := .ok } ∧
        (sha256 m).length = 32 ∧ Wrote s t s.dst.toNat (sha256 m)

/-- R204: KDF hashes passphrase and salt together, then hashes the result ARG2 times, and writes it to DST; fewer than
2048 iterations are refused. -/
def Obligations.KdfEffect : Prop :=
  (∀ (s : State) (pass salt : List Byte), s.stfail = false → 2048 ≤ s.arg2.toNat →
    s.src.toNat + s.len.toNat ≤ s.par.dmemSize → s.arg0.toNat + s.arg1.toNat ≤ s.par.dmemSize →
    s.dst.toNat + 32 ≤ s.par.dmemSize → s.mem.readBytes s.src.toNat s.len.toNat = some pass →
    s.mem.readBytes s.arg0.toNat s.arg1.toNat = some salt →
      ∃ t out, exec .kdf s = .next t ∧ { t with mem := s.mem } = { s with errcode := .ok } ∧
        out = sha256^[s.arg2.toNat] (sha256 (pass ++ salt)) ∧ out.length = 32 ∧ Wrote s t s.dst.toNat out) ∧
  (∀ s : State, s.stfail = false → s.arg2.toNat < 2048 →
    exec .kdf s = .next { s with errcode := .invalidParameter, errseen := true })

/-- R220: HMAC_INIT starts a checksum from every phase and discards the old one. -/
def Obligations.HmacInitEffect : Prop :=
  ∀ (s : State) (h : CtxIx) (seed : List Byte), s.stfail = false → h.toNat < s.nhctx → s.len.toNat ≤ 64 →
    s.src.toNat + s.len.toNat ≤ s.par.dmemSize → s.mem.readBytes s.src.toNat s.len.toNat = some seed →
      exec (.hmacInit h) s = .next { s with
        hctx := s.hctx.set h.toNat
          { phase := .accum
            ist := ShaStream.init.update ((seed ++ zeros (64 - s.len.toNat)).map (· ^^^ 0x36))
            okey := (seed ++ zeros (64 - s.len.toNat)).map (· ^^^ 0x5C)
            memo := zeros 32 }
        errcode := .ok }

/-- R221: HMAC_UPDATE absorbs the bytes of SRC; outside ACCUM it raises StateError. -/
def Obligations.HmacUpdateEffect : Prop :=
  ∀ (s : State) (h : CtxIx) (y : HmacCtx), s.stfail = false → s.hctx[h.toNat]? = some y →
    s.src.toNat + s.len.toNat ≤ s.par.dmemSize →
    (∀ d, y.phase = .accum → s.mem.readBytes s.src.toNat s.len.toNat = some d →
      exec (.hmacUpdate h) s = .next { s with
        hctx := s.hctx.set h.toNat { y with ist := y.ist.update d }, errcode := .ok }) ∧
    (y.phase ≠ .accum → exec (.hmacUpdate h) s = .next { s with errcode := .stateError, errseen := true })

/-- R222: HMAC_DIGEST writes the digest and memoises it; a second one writes the same bytes and changes no context. -/
def Obligations.HmacDigestEffect : Prop :=
  ∀ (s : State) (h : CtxIx) (y : HmacCtx), s.stfail = false → s.hctx[h.toNat]? = some y →
    s.dst.toNat + 32 ≤ s.par.dmemSize →
    (y.phase = .idle → exec (.hmacDigest h) s = .next { s with errcode := .stateError, errseen := true }) ∧
    (y.phase = .accum → ∃ t, exec (.hmacDigest h) s = .next t ∧
      { t with mem := s.mem } = { s with
        hctx := s.hctx.set h.toNat { y with memo := sha256 (y.okey ++ y.ist.final), phase := .done,
                                            ist := { Hs := ⟨0, 0, 0, 0, 0, 0, 0, 0⟩, pend := [], tot := 0 } }
        errcode := .ok } ∧
      Wrote s t s.dst.toNat (sha256 (y.okey ++ y.ist.final))) ∧
    (y.phase = .done → ∃ t, exec (.hmacDigest h) s = .next t ∧
      { t with mem := s.mem } = { s with errcode := .ok } ∧ Wrote s t s.dst.toNat y.memo)

/-- The HMAC operand of a codec command is in order (R88, R225, R303): with U = 1 the context H is in ACCUM, with U = 0
the field H is 0. -/
def CodecReady (s : State) (u : Bool) (h : CtxIx) : Prop :=
  s.stfail = false ∧ if u then ∃ y, s.hctx[h.toNat]? = some y ∧ y.phase = .accum else h = 0

/-- The HMAC contexts once a codec command has absorbed `d` (R225): with U = 0 they are as they were. -/
def absorbed (s : State) (u : Bool) (h : CtxIx) (d : List Byte) : List HmacCtx :=
  if u then s.hctx.set h.toNat { s.hctxAt h with ist := (s.hctxAt h).ist.update d } else s.hctx

/-- The next `n` bytes of the generator (R272), whatever ENTROPY answers. -/
def drawnBytes (s : State) (n : Nat) : List Byte := (s.rng.bytes Config.entropy n).1

/-- The generator after the next `n` bytes (R272), whatever ENTROPY answers. -/
def rngAfter (s : State) (n : Nat) : Rng := (s.rng.bytes Config.entropy n).2

/-- R244: BLK_PAD writes the data and as many random bytes as fill the last block, absorbs the unpadded data with U = 1,
and reports the padded length. -/
def Obligations.BlkPadEffect : Prop :=
  ∀ (s : State) (v : Format) (u : Bool) (h : CtxIx) (d : List Byte) (bs out : Nat), CodecReady s u h →
    bs = (if v = .v3 then 16 else 8) → out = (s.len.toNat + bs - 1) / bs * bs →
    s.src.toNat + s.len.toNat ≤ s.par.dmemSize → s.dst.toNat + out ≤ s.par.dmemSize →
    s.mem.readBytes s.src.toNat s.len.toNat = some d →
      ∃ t, exec (.blkPad v u h) s = .next t ∧
        { t with mem := s.mem } = { s with
          hctx := absorbed s u h d, rng := rngAfter s (out - s.len.toNat), result0 := BitVec.ofNat 32 out,
          errcode := .ok } ∧
        Wrote s t s.dst.toNat (d ++ drawnBytes s (out - s.len.toNat))

/-- The number of filler bytes in a field of declared length `n` (R242, R243). -/
def fillers (n : Nat) (v : Format) : Nat := fieldCount n v * codecBs v - 5 - n

/-- R245, R242, R243, R249: FIELD_ENC writes header, data and filler in the layout of the format, absorbs the declared
data with U = 1, and reports the wire length and the block count. -/
def Obligations.FieldEncEffect : Prop :=
  ∀ (s : State) (v : Format) (u : Bool) (h : CtxIx) (d : List Byte) (n : Nat), CodecReady s u h → n = s.len.toNat →
    s.arg0.toNat ≤ n → s.arg1.toNat < 255 → s.src.toNat + s.arg0.toNat ≤ s.par.dmemSize →
    s.dst.toNat + fieldCount n v * codecBs v ≤ s.par.dmemSize → s.mem.readBytes s.src.toNat s.arg0.toNat = some d →
      ∃ t wire, exec (.fieldEnc v u h) s = .next t ∧
        { t with mem := s.mem } = { s with
          hctx := absorbed s u h (d ++ zeros (n - s.arg0.toNat)), rng := rngAfter s (fillers n v),
          result0 := BitVec.ofNat 32 (fieldCount n v * codecBs v), result1 := BitVec.ofNat 32 (fieldCount n v),
          errcode := .ok } ∧
        wire.length = fieldCount n v * codecBs v ∧ Wrote s t s.dst.toNat wire ∧
        slice wire 0 4 = LE32 s.len ∧ slice wire 4 1 = [s.arg1.setWidth 8] ∧
        (v = .v3 → slice wire 5 n = d ++ zeros (n - s.arg0.toNat) ∧
          wire.drop (5 + n) = drawnBytes s (fillers n v)) ∧
        (v = .v12 → slice wire 8 n = d ++ zeros (n - s.arg0.toNat) ∧
          slice wire 5 3 ++ wire.drop (8 + n) = drawnBytes s (fillers n v))

/-- R246: FIELD_DEC reads the L wire bytes at SRC, takes length and type from the header, writes the data to DST, absorbs
it with U = 1 and reports type, length and wire length; filler and bytes beyond the field have no effect. -/
def Obligations.FieldDecEffect : Prop :=
  ∀ (s : State) (v : Format) (u : Bool) (h : CtxIx) (w D : List Byte) (n : Nat), CodecReady s u h →
    s.src.toNat + s.len.toNat ≤ s.par.dmemSize → s.mem.readBytes s.src.toNat s.len.toNat = some w →
    n = (le32 (slice w 0 4)).toNat → fieldCount n v * codecBs v ≤ s.len.toNat → s.dst.toNat + n ≤ s.par.dmemSize →
    D = slice w (if v = .v3 then 5 else 8) n →
      ∃ r t, exec (.fieldDec v u h) s = .next r ∧ w[4]? = some t ∧ D.length = n ∧
        { r with mem := s.mem } = { s with
          hctx := absorbed s u h D, result0 := t.setWidth 32, result1 := le32 (slice w 0 4),
          result2 := BitVec.ofNat 32 (fieldCount n v * codecBs v), errcode := .ok } ∧
        Wrote s r s.dst.toNat D

/-- R252, R246: of a wire whose L bytes have all been written, any length below what its field needs raises Truncated.
A wire shorter than one block, whose header may be cut off, is shorter than every field. -/
def Obligations.TruncationIsDetected : Prop :=
  ∀ (s : State) (v : Format) (u : Bool) (h : CtxIx) (w : List Byte), CodecReady s u h →
    s.src.toNat + s.len.toNat ≤ s.par.dmemSize → s.mem.readBytes s.src.toNat s.len.toNat = some w →
    s.len.toNat < fieldCount (le32 (slice w 0 4)).toNat v * codecBs v →
      exec (.fieldDec v u h) s = .next { s with errcode := .truncated, errseen := true }

/-- R247, R241: FIELD_COUNT gives the block count of a length, the largest of which fits RESULT0; nothing else changes. -/
def Obligations.FieldCountEffect : Prop :=
  ∀ (s : State), s.stfail = false →
    (∃ r : Word, exec (.fieldCount .v3) s = .next { s with result0 := r, errcode := .ok } ∧
      r.toNat = 1 + (s.arg0.toNat - 11 + 15) / 16) ∧
    (∃ r : Word, exec (.fieldCount .v12) s = .next { s with result0 := r, errcode := .ok } ∧
      r.toNat = 1 + max 1 ((s.arg0.toNat + 7) / 8))

/-- R248: FIELD_TERM writes the terminator, type 0xFF and length 0, with 11 filler bytes in both formats. -/
def Obligations.FieldTermEffect : Prop :=
  ∀ (s : State) (v : Format), s.stfail = false → s.dst.toNat + 16 ≤ s.par.dmemSize →
    ∃ t, exec (.fieldTerm v) s = .next t ∧
      { t with mem := s.mem } = { s with
        rng := rngAfter s 11, result0 := 16, result1 := if v = .v3 then 1 else 2, errcode := .ok } ∧
      Wrote s t s.dst.toNat ([0x00, 0x00, 0x00, 0x00, 0xFF] ++ drawnBytes s 11)

/-- R275 to R278: the drawing commands take the next bytes of the generator, to DST or to the RESULT registers, and
change nothing else; the values hold for every answer of ENTROPY. -/
def Obligations.RngDrawEffect : Prop :=
  ∀ s : State, s.stfail = false →
    (s.dst.toNat + s.len.toNat ≤ s.par.dmemSize → ∃ t, exec .rngBytes s = .next t ∧
      { t with mem := s.mem } = { s with rng := rngAfter s s.len.toNat, errcode := .ok } ∧
      (drawnBytes s s.len.toNat).length = s.len.toNat ∧ Wrote s t s.dst.toNat (drawnBytes s s.len.toNat)) ∧
    (∃ b, drawnBytes s 1 = [b] ∧
      exec .rngByte s = .next { s with rng := rngAfter s 1, result0 := b.setWidth 32, errcode := .ok }) ∧
    exec .rngInt s = .next { s with rng := rngAfter s 4, result0 := le32 (drawnBytes s 4), errcode := .ok } ∧
    exec .rngLong s = .next { s with rng := rngAfter s 8, result0 := le32 (slice (drawnBytes s 8) 0 4),
                                     result1 := le32 (slice (drawnBytes s 8) 4 4), errcode := .ok }

/-- R279: RNG_BOUND masks the sign bit of four drawn bytes and reduces modulo the bound, so the result is below the
bound; a bound of 0 or above 0x7FFFFFFF is refused and draws nothing. -/
def Obligations.RngBoundEffect : Prop :=
  ∀ s : State, s.stfail = false →
    (1 ≤ s.arg0.toNat → s.arg0.toNat ≤ 0x7FFFFFFF → ∃ r : Word,
      exec .rngBound s = .next { s with rng := rngAfter s 4, result0 := r, errcode := .ok } ∧
      r.toNat = (le32 (drawnBytes s 4)).toNat % 2 ^ 31 % s.arg0.toNat ∧ r.toNat < s.arg0.toNat) ∧
    (s.arg0.toNat = 0 ∨ 0x7FFFFFFF < s.arg0.toNat →
      exec .rngBound s = .next { s with errcode := .invalidParameter, errseen := true })

/-- R280, R281: RNG_SEED stores the seed string and RNG_CYCLE the period; both make the next refill rebuild the pool and
leave the unread bytes as they are. -/
def Obligations.RngSetupEffect : Prop :=
  ∀ s : State, s.stfail = false →
    (∀ seed, s.len.toNat ≤ 64 → s.src.toNat + s.len.toNat ≤ s.par.dmemSize →
      s.mem.readBytes s.src.toNat s.len.toNat = some seed →
        exec .rngSeed s = .next { s with rng := { s.rng with rseed := seed, rleft := 0 }, errcode := .ok }) ∧
    (s.arg0 ≠ 0 →
      exec .rngCycle s = .next { s with rng := { s.rng with rcycle := s.arg0, rleft := 0 }, errcode := .ok }) ∧
    (s.arg0 = 0 → exec .rngCycle s = .next { s with errcode := .invalidParameter, errseen := true })

/-! ## The algorithms and the properties across commands -/

/-- R272 to R274, R282, R75: how the generator serves a byte from a non-empty buffer; how a refill builds the next
buffer, from a rebuilt pool when no refill is left; and that the bytes of one command and then another are one contiguous
run of its stream. For every oracle. -/
def Obligations.GeneratorStream : Prop :=
  ∀ (oracle : Nat → List Byte × List Byte) (g : Rng), g.Ok →
    (g.ridx < 64 → ∃ b, g.rbuf[g.ridx]? = some b ∧ g.byte oracle = (b, { g with ridx := g.ridx + 1 })) ∧
    (g.ridx = 64 → ∃ pool left ent h1 h2 b,
      (if g.rleft = 0 then
          pool = sha256 (g.rbuf ++ (oracle g.ent).1 ++ g.rseed ++ (oracle g.ent).2) ∧ left = g.rcycle ∧ ent = g.ent + 1
        else pool = g.pool ∧ left = g.rleft ∧ ent = g.ent) ∧
      h1 = sha256 (pool ++ LE64 g.rctr) ∧ h2 = sha256 (pool ++ xorBytes h1 (g.rbuf.take 32)) ∧
      (h1 ++ h2)[0]? = some b ∧
      g.byte oracle = (b, { g with rbuf := h1 ++ h2, ridx := 1, pool := pool, rctr := g.rctr + 1, rleft := left - 1,
                                   ent := ent })) ∧
    (∀ m n, g.bytes oracle (m + n) =
      ((g.bytes oracle m).1 ++ ((g.bytes oracle m).2.bytes oracle n).1, ((g.bytes oracle m).2.bytes oracle n).2))

/-- R113, R114, R118, R147: decryption inverts encryption for both primitives, every schedule and every block; for
Blowfish on words and on bytes. -/
def Obligations.PrimitivesInvert : Prop :=
  (∀ (t : BfSched) (b : Word × Word), bfCoreDec t (bfCoreEnc t b) = b) ∧
  (∀ (t : BfSched) (b : List Byte), b.length = 8 → bfD t (bfE t b) = b) ∧
  (∀ (t : TfSched) (b : List Byte), b.length = 16 → tfD t (tfE t b) = b)

/-- R141, R153: the permutations built from the four-bit tables have the listed values at the ends of each row of sixteen
that R153 starts with 0_, 8_ and F_, and both are permutations of the bytes. -/
def Obligations.QPermutations : Prop :=
  [q0 0x00, q0 0x0F, q0 0x80, q0 0x8F, q0 0xF0, q0 0xFF] = [0xA9, 0x38, 0xA1, 0x90, 0xCA, 0xE0] ∧
  [q1 0x00, q1 0x0F, q1 0x80, q1 0x8F, q1 0xF0, q1 0xFF] = [0x75, 0x4B, 0x66, 0x3E, 0xD7, 0x91] ∧
  (∀ x y : Byte, q0 x = q0 y → x = y) ∧ (∀ x y : Byte, q1 x = q1 y → x = y)

/-- R201: absorbing in pieces is absorbing the whole, in every streaming state whose pending bytes are fewer than a
block; and the pending bytes stay fewer. -/
def Obligations.HashUpdateIsAssociative : Prop :=
  ∀ (st : ShaStream) (a b : List Byte), st.pend.length < 64 →
    (st.update a).update b = st.update (a ++ b) ∧ (st.update a).pend.length < 64

/-- R226, R224: the digest of a context that was started with a seed and then absorbed any pieces of data is HMAC-SHA256
of the seed and of the pieces put together, however the data was split. -/
def Obligations.HmacStreaming : Prop :=
  ∀ (seed : List Byte) (ds : List (List Byte)), seed.length ≤ 64 →
    ((ds.foldl HmacCtx.absorb (HmacCtx.start seed)).digested).memo =
      sha256 ((seed ++ zeros (64 - seed.length)).map (· ^^^ 0x5C) ++
        sha256 ((seed ++ zeros (64 - seed.length)).map (· ^^^ 0x36) ++ ds.flatten))

/-- R180: a chained pass over two pieces gives the blocks and the final vector of one pass over both, for every block
function; and cutting a buffer at a block multiple cuts its blocks. -/
def Obligations.SplitChaining : Prop :=
  (∀ (E : List Byte → List Byte) (v : List Byte) (ps qs : List (List Byte)),
    cbcEncBlocks E v (ps ++ qs) =
      ((cbcEncBlocks E v ps).1 ++ (cbcEncBlocks E (cbcEncBlocks E v ps).2 qs).1,
        (cbcEncBlocks E (cbcEncBlocks E v ps).2 qs).2) ∧
    cbcDecBlocks E v (ps ++ qs) =
      ((cbcDecBlocks E v ps).1 ++ (cbcDecBlocks E (cbcDecBlocks E v ps).2 qs).1,
        (cbcDecBlocks E (cbcDecBlocks E v ps).2 qs).2) ∧
    cfbEncBlocks E v (ps ++ qs) =
      ((cfbEncBlocks E v ps).1 ++ (cfbEncBlocks E (cfbEncBlocks E v ps).2 qs).1,
        (cfbEncBlocks E (cfbEncBlocks E v ps).2 qs).2) ∧
    cfbDecBlocks E v (ps ++ qs) =
      ((cfbDecBlocks E v ps).1 ++ (cfbDecBlocks E (cfbDecBlocks E v ps).2 qs).1,
        (cfbDecBlocks E (cfbDecBlocks E v ps).2 qs).2)) ∧
  (∀ (x : CipherCtx) (p q : List Byte), 0 < x.bs → p.length % x.bs = 0 → x.split (p ++ q) = x.split p ++ x.split q)

/-- R182: decryption on a context keyed and initialised alike gives back what encryption read, for ECB, CBC and CFB, both
primitives and every vector. `s1` is the state of the encrypting command and `s2` any state, of the same or another
context, whose SRC bytes are the ciphertext that `t1` holds at DST. -/
def Obligations.CipherRoundTrip : Prop :=
  ∀ (s1 t1 s2 t2 : State) (c1 c2 : CtxIx) (x1 x2 : CipherCtx) (e d : Instr),
    ((e, d) = (.ecbEnc c1, .ecbDec c2) ∨ (e, d) = (.cbcEnc c1, .cbcDec c2) ∨ (e, d) = (.cfbEnc c1, .cfbDec c2)) →
    s1.ctx[c1.toNat]? = some x1 → s2.ctx[c2.toNat]? = some x2 → x1.Ok → x2.Ok →
    x1.alg = x2.alg → x1.bf = x2.bf → x1.tf = x2.tf → x1.V = x2.V →
    exec e s1 = .next t1 → t1.errcode = .ok → s2.len = s1.len →
    s2.mem.readBytes s2.src.toNat s2.len.toNat = t1.mem.readBytes s1.dst.toNat s1.len.toNat →
    exec d s2 = .next t2 → t2.errcode = .ok →
      t2.mem.readBytes s2.dst.toNat s2.len.toNat = s1.mem.readBytes s1.src.toNat s1.len.toNat

/-- R250, R251: decoding the wire that FIELD_ENC wrote gives back type, length, wire length and data, for every filler,
and with U = 1 on both sides absorbs the same bytes into contexts that stood alike. -/
def Obligations.FieldRoundTrip : Prop :=
  ∀ (s1 t1 s2 t2 : State) (v : Format) (u1 u2 : Bool) (h1 h2 : CtxIx) (d : List Byte),
    s1.Ok → s1.mem.readBytes s1.src.toNat s1.arg0.toNat = some d →
    exec (.fieldEnc v u1 h1) s1 = .next t1 → t1.errcode = .ok → s2.len = t1.result0 →
    s2.mem.readBytes s2.src.toNat s2.len.toNat = t1.mem.readBytes s1.dst.toNat t1.result0.toNat →
    exec (.fieldDec v u2 h2) s2 = .next t2 → t2.errcode = .ok →
      t2.result0 = s1.arg1 ∧ t2.result1 = s1.len ∧ t2.result2 = t1.result0 ∧
      t2.mem.readBytes s2.dst.toNat s1.len.toNat = some (d ++ zeros (s1.len.toNat - s1.arg0.toNat)) ∧
      (u1 = true → u2 = true → s1.hctx[h1.toNat]? = s2.hctx[h2.toNat]? → t1.hctx[h1.toNat]? = t2.hctx[h2.toNat]?)
end

