-- ==== Sys2Proof/Laws/Memory.lean ====
section
/-! SUPPORT. The laws of DMEM: a read after a write, what a write leaves alone, and the canonical form that every memory
operation keeps. -/
namespace Sys2Proof.Machine

@[simp] theorem Memory.get_nil (a : Nat) : Memory.get [] a = none := rfl

@[simp] theorem Memory.readBytes_zero (m : Memory) (a : Nat) : m.readBytes a 0 = some [] := rfl

@[simp] theorem Memory.writeBytes_nil (m : Memory) (a : Nat) : m.writeBytes a [] = m := rfl

theorem Memory.writeBytes_cons (m : Memory) (a : Nat) (b : Byte) (bs : List Byte) :
    m.writeBytes a (b :: bs) = (m.set a b).writeBytes (a + 1) bs := rfl

@[simp] theorem Memory.get_set_same (m : Memory) (a : Nat) (b : Byte) : (m.set a b).get a = some b := by
  induction m with
  | nil => simp [Memory.set, Memory.get]
  | cons c m ih =>
    obtain ⟨k, x⟩ := c
    unfold Memory.set
    split
    · simp [Memory.get]
    · split
      · simp [Memory.get]
      · rename_i h1 h2
        simp [Memory.get, Ne.symm h2, ih]

theorem Memory.get_set_ne (m : Memory) {a a' : Nat} (b : Byte) (h : a' ≠ a) : (m.set a b).get a' = m.get a' := by
  induction m with
  | nil => simp [Memory.set, Memory.get, Ne.symm h]
  | cons c m ih =>
    obtain ⟨k, x⟩ := c
    unfold Memory.set
    split
    · simp [Memory.get, Ne.symm h]
    · split
      · rename_i h1 h2
        subst h2
        simp [Memory.get, Ne.symm h]
      · simp [Memory.get, ih]

theorem Memory.get_writeBytes_outside (m : Memory) (a : Nat) (bs : List Byte) (x : Nat)
    (h : x < a ∨ a + bs.length ≤ x) : (m.writeBytes a bs).get x = m.get x := by
  induction bs generalizing m a with
  | nil => rfl
  | cons b bs ih =>
    simp only [List.length_cons] at h
    rw [Memory.writeBytes_cons, ih _ _ (by omega), Memory.get_set_ne _ _ (by omega)]

/-- Reading depends only on the bytes read. -/
theorem Memory.readBytes_congr {m m' : Memory} {a n : Nat} (h : ∀ x, a ≤ x → x < a + n → m'.get x = m.get x) :
    m'.readBytes a n = m.readBytes a n := by
  induction n generalizing a with
  | zero => rfl
  | succ n ih =>
    simp only [Memory.readBytes]
    rw [h a (by omega) (by omega), ih fun x h1 h2 => h x (by omega) (by omega)]

/-- A read of what was just written gives it back. -/
@[simp] theorem Memory.readBytes_writeBytes (m : Memory) (a : Nat) (bs : List Byte) :
    (m.writeBytes a bs).readBytes a bs.length = some bs := by
  induction bs generalizing m a with
  | nil => rfl
  | cons b bs ih =>
    simp only [Memory.writeBytes_cons, List.length_cons, Memory.readBytes]
    rw [Memory.get_writeBytes_outside _ _ _ _ (by omega), Memory.get_set_same, ih]

theorem Memory.readBytes_length {m : Memory} {a n : Nat} {bs : List Byte} (h : m.readBytes a n = some bs) :
    bs.length = n := by
  induction n generalizing a bs with
  | zero => simp_all
  | succ n ih =>
    simp only [Memory.readBytes] at h
    split at h
    · rename_i b r _ hr
      cases h
      simp [ih hr]
    · cases h

/-- The whole effect of a write (R79): the bytes are there, and every other byte reads as before. -/
theorem Memory.writeBytes_spec (m : Memory) (a : Nat) (bs : List Byte) :
    (m.writeBytes a bs).readBytes a bs.length = some bs ∧
      ∀ x, x < a ∨ a + bs.length ≤ x → (m.writeBytes a bs).get x = m.get x :=
  ⟨Memory.readBytes_writeBytes m a bs, fun x h => Memory.get_writeBytes_outside m a bs x h⟩

theorem Memory.risesFrom_mono {m : Memory} {lo hi : Nat} (h : lo ≤ hi) (hm : Memory.risesFrom hi m = true) :
    Memory.risesFrom lo m = true := by
  cases m with
  | nil => rfl
  | cons c m =>
    obtain ⟨k, x⟩ := c
    simp only [Memory.risesFrom, Bool.and_eq_true, decide_eq_true_eq] at hm ⊢
    exact ⟨by omega, hm.2⟩

theorem Memory.risesFrom_set {m : Memory} {lo a : Nat} (b : Byte) (ha : lo ≤ a) (hm : Memory.risesFrom lo m = true) :
    Memory.risesFrom lo (m.set a b) = true := by
  induction m generalizing lo with
  | nil => simp [Memory.set, Memory.risesFrom, ha]
  | cons c m ih =>
    obtain ⟨k, x⟩ := c
    simp only [Memory.risesFrom, Bool.and_eq_true, decide_eq_true_eq] at hm
    unfold Memory.set
    split
    · simp only [Memory.risesFrom, Bool.and_eq_true, decide_eq_true_eq]
      exact ⟨ha, by omega, hm.2⟩
    · split
      · rename_i h2
        subst h2
        simp only [Memory.risesFrom, Bool.and_eq_true, decide_eq_true_eq]
        exact ⟨ha, hm.2⟩
      · simp only [Memory.risesFrom, Bool.and_eq_true, decide_eq_true_eq]
        exact ⟨hm.1, ih (by omega) hm.2⟩

/-- Every write keeps the canonical form. -/
theorem Memory.wf_writeBytes {m : Memory} (hm : m.wf = true) (a : Nat) (bs : List Byte) :
    (m.writeBytes a bs).wf = true := by
  induction bs generalizing m a with
  | nil => exact hm
  | cons b bs ih => exact ih (Memory.risesFrom_set b (Nat.zero_le a) hm) (a + 1)

theorem Memory.mem_set {m : Memory} {a : Nat} {b : Byte} {c : Host.Cell} (h : c ∈ m.set a b) : c = (a, b) ∨ c ∈ m := by
  induction m with
  | nil => simpa [Memory.set] using h
  | cons d m ih =>
    obtain ⟨k, x⟩ := d
    unfold Memory.set at h
    split at h
    · simpa using h
    · split at h
      · rcases List.mem_cons.1 h with h | h
        · exact .inl h
        · exact .inr (List.mem_cons_of_mem _ h)
      · rcases List.mem_cons.1 h with h | h
        · exact .inr (h ▸ List.mem_cons_self)
        · exact (ih h).imp_right (List.mem_cons_of_mem _)

/-- A write below a bound leaves every listed address below it. -/
theorem Memory.writeBytes_addr_lt {m : Memory} {bound : Nat} (hm : ∀ c ∈ m, c.1 < bound) {a : Nat} {bs : List Byte}
    (h : a + bs.length ≤ bound) : ∀ c ∈ m.writeBytes a bs, c.1 < bound := by
  induction bs generalizing m a with
  | nil => exact hm
  | cons b bs ih =>
    simp only [List.length_cons] at h
    refine ih (fun c hc => ?_) (by omega)
    rcases Memory.mem_set hc with rfl | hc
    · exact Nat.lt_of_lt_of_le (by omega) h
    · exact hm c hc

end Sys2Proof.Machine
end

