-- ==== Sys2Proof/Laws/State.lean ====
section
/-! SUPPORT. One lemma for each field of the state under each named update, so that no proof unfolds a record update. -/
namespace Sys2Proof.Machine

variable (s : State)

section
variable (c : CtxIx) (x : CipherCtx)
@[simp] theorem State.setCtx_par : (s.setCtx c x).par = s.par := rfl
@[simp] theorem State.setCtx_cmd : (s.setCtx c x).cmd = s.cmd := rfl
@[simp] theorem State.setCtx_src : (s.setCtx c x).src = s.src := rfl
@[simp] theorem State.setCtx_dst : (s.setCtx c x).dst = s.dst := rfl
@[simp] theorem State.setCtx_len : (s.setCtx c x).len = s.len := rfl
@[simp] theorem State.setCtx_arg0 : (s.setCtx c x).arg0 = s.arg0 := rfl
@[simp] theorem State.setCtx_arg1 : (s.setCtx c x).arg1 = s.arg1 := rfl
@[simp] theorem State.setCtx_arg2 : (s.setCtx c x).arg2 = s.arg2 := rfl
@[simp] theorem State.setCtx_errcode : (s.setCtx c x).errcode = s.errcode := rfl
@[simp] theorem State.setCtx_errseen : (s.setCtx c x).errseen = s.errseen := rfl
@[simp] theorem State.setCtx_stfail : (s.setCtx c x).stfail = s.stfail := rfl
@[simp] theorem State.setCtx_result0 : (s.setCtx c x).result0 = s.result0 := rfl
@[simp] theorem State.setCtx_result1 : (s.setCtx c x).result1 = s.result1 := rfl
@[simp] theorem State.setCtx_result2 : (s.setCtx c x).result2 = s.result2 := rfl
@[simp] theorem State.setCtx_mem : (s.setCtx c x).mem = s.mem := rfl
@[simp] theorem State.setCtx_ctx : (s.setCtx c x).ctx = s.ctx.set c.toNat x := rfl
@[simp] theorem State.setCtx_hctx : (s.setCtx c x).hctx = s.hctx := rfl
@[simp] theorem State.setCtx_rng : (s.setCtx c x).rng = s.rng := rfl
@[simp] theorem State.setCtx_port : (s.setCtx c x).port = s.port := rfl
@[simp] theorem State.setCtx_rdata : (s.setCtx c x).rdata = s.rdata := rfl
end

section
variable (h : CtxIx) (y : HmacCtx)
@[simp] theorem State.setHctx_par : (s.setHctx h y).par = s.par := rfl
@[simp] theorem State.setHctx_cmd : (s.setHctx h y).cmd = s.cmd := rfl
@[simp] theorem State.setHctx_src : (s.setHctx h y).src = s.src := rfl
@[simp] theorem State.setHctx_dst : (s.setHctx h y).dst = s.dst := rfl
@[simp] theorem State.setHctx_len : (s.setHctx h y).len = s.len := rfl
@[simp] theorem State.setHctx_arg0 : (s.setHctx h y).arg0 = s.arg0 := rfl
@[simp] theorem State.setHctx_arg1 : (s.setHctx h y).arg1 = s.arg1 := rfl
@[simp] theorem State.setHctx_arg2 : (s.setHctx h y).arg2 = s.arg2 := rfl
@[simp] theorem State.setHctx_errcode : (s.setHctx h y).errcode = s.errcode := rfl
@[simp] theorem State.setHctx_errseen : (s.setHctx h y).errseen = s.errseen := rfl
@[simp] theorem State.setHctx_stfail : (s.setHctx h y).stfail = s.stfail := rfl
@[simp] theorem State.setHctx_result0 : (s.setHctx h y).result0 = s.result0 := rfl
@[simp] theorem State.setHctx_result1 : (s.setHctx h y).result1 = s.result1 := rfl
@[simp] theorem State.setHctx_result2 : (s.setHctx h y).result2 = s.result2 := rfl
@[simp] theorem State.setHctx_mem : (s.setHctx h y).mem = s.mem := rfl
@[simp] theorem State.setHctx_ctx : (s.setHctx h y).ctx = s.ctx := rfl
@[simp] theorem State.setHctx_hctx : (s.setHctx h y).hctx = s.hctx.set h.toNat y := rfl
@[simp] theorem State.setHctx_rng : (s.setHctx h y).rng = s.rng := rfl
@[simp] theorem State.setHctx_port : (s.setHctx h y).port = s.port := rfl
@[simp] theorem State.setHctx_rdata : (s.setHctx h y).rdata = s.rdata := rfl
end

section
variable (g : Rng)
@[simp] theorem State.setRng_par : (s.setRng g).par = s.par := rfl
@[simp] theorem State.setRng_cmd : (s.setRng g).cmd = s.cmd := rfl
@[simp] theorem State.setRng_src : (s.setRng g).src = s.src := rfl
@[simp] theorem State.setRng_dst : (s.setRng g).dst = s.dst := rfl
@[simp] theorem State.setRng_len : (s.setRng g).len = s.len := rfl
@[simp] theorem State.setRng_arg0 : (s.setRng g).arg0 = s.arg0 := rfl
@[simp] theorem State.setRng_arg1 : (s.setRng g).arg1 = s.arg1 := rfl
@[simp] theorem State.setRng_arg2 : (s.setRng g).arg2 = s.arg2 := rfl
@[simp] theorem State.setRng_errcode : (s.setRng g).errcode = s.errcode := rfl
@[simp] theorem State.setRng_errseen : (s.setRng g).errseen = s.errseen := rfl
@[simp] theorem State.setRng_stfail : (s.setRng g).stfail = s.stfail := rfl
@[simp] theorem State.setRng_result0 : (s.setRng g).result0 = s.result0 := rfl
@[simp] theorem State.setRng_result1 : (s.setRng g).result1 = s.result1 := rfl
@[simp] theorem State.setRng_result2 : (s.setRng g).result2 = s.result2 := rfl
@[simp] theorem State.setRng_mem : (s.setRng g).mem = s.mem := rfl
@[simp] theorem State.setRng_ctx : (s.setRng g).ctx = s.ctx := rfl
@[simp] theorem State.setRng_hctx : (s.setRng g).hctx = s.hctx := rfl
@[simp] theorem State.setRng_rng : (s.setRng g).rng = g := rfl
@[simp] theorem State.setRng_port : (s.setRng g).port = s.port := rfl
@[simp] theorem State.setRng_rdata : (s.setRng g).rdata = s.rdata := rfl
end

section
variable (x : Word)
@[simp] theorem State.setResult0_par : (s.setResult0 x).par = s.par := rfl
@[simp] theorem State.setResult0_cmd : (s.setResult0 x).cmd = s.cmd := rfl
@[simp] theorem State.setResult0_src : (s.setResult0 x).src = s.src := rfl
@[simp] theorem State.setResult0_dst : (s.setResult0 x).dst = s.dst := rfl
@[simp] theorem State.setResult0_len : (s.setResult0 x).len = s.len := rfl
@[simp] theorem State.setResult0_arg0 : (s.setResult0 x).arg0 = s.arg0 := rfl
@[simp] theorem State.setResult0_arg1 : (s.setResult0 x).arg1 = s.arg1 := rfl
@[simp] theorem State.setResult0_arg2 : (s.setResult0 x).arg2 = s.arg2 := rfl
@[simp] theorem State.setResult0_errcode : (s.setResult0 x).errcode = s.errcode := rfl
@[simp] theorem State.setResult0_errseen : (s.setResult0 x).errseen = s.errseen := rfl
@[simp] theorem State.setResult0_stfail : (s.setResult0 x).stfail = s.stfail := rfl
@[simp] theorem State.setResult0_result0 : (s.setResult0 x).result0 = x := rfl
@[simp] theorem State.setResult0_result1 : (s.setResult0 x).result1 = s.result1 := rfl
@[simp] theorem State.setResult0_result2 : (s.setResult0 x).result2 = s.result2 := rfl
@[simp] theorem State.setResult0_mem : (s.setResult0 x).mem = s.mem := rfl
@[simp] theorem State.setResult0_ctx : (s.setResult0 x).ctx = s.ctx := rfl
@[simp] theorem State.setResult0_hctx : (s.setResult0 x).hctx = s.hctx := rfl
@[simp] theorem State.setResult0_rng : (s.setResult0 x).rng = s.rng := rfl
@[simp] theorem State.setResult0_port : (s.setResult0 x).port = s.port := rfl
@[simp] theorem State.setResult0_rdata : (s.setResult0 x).rdata = s.rdata := rfl
end

section
variable (x : Word)
@[simp] theorem State.setResult1_par : (s.setResult1 x).par = s.par := rfl
@[simp] theorem State.setResult1_cmd : (s.setResult1 x).cmd = s.cmd := rfl
@[simp] theorem State.setResult1_src : (s.setResult1 x).src = s.src := rfl
@[simp] theorem State.setResult1_dst : (s.setResult1 x).dst = s.dst := rfl
@[simp] theorem State.setResult1_len : (s.setResult1 x).len = s.len := rfl
@[simp] theorem State.setResult1_arg0 : (s.setResult1 x).arg0 = s.arg0 := rfl
@[simp] theorem State.setResult1_arg1 : (s.setResult1 x).arg1 = s.arg1 := rfl
@[simp] theorem State.setResult1_arg2 : (s.setResult1 x).arg2 = s.arg2 := rfl
@[simp] theorem State.setResult1_errcode : (s.setResult1 x).errcode = s.errcode := rfl
@[simp] theorem State.setResult1_errseen : (s.setResult1 x).errseen = s.errseen := rfl
@[simp] theorem State.setResult1_stfail : (s.setResult1 x).stfail = s.stfail := rfl
@[simp] theorem State.setResult1_result0 : (s.setResult1 x).result0 = s.result0 := rfl
@[simp] theorem State.setResult1_result1 : (s.setResult1 x).result1 = x := rfl
@[simp] theorem State.setResult1_result2 : (s.setResult1 x).result2 = s.result2 := rfl
@[simp] theorem State.setResult1_mem : (s.setResult1 x).mem = s.mem := rfl
@[simp] theorem State.setResult1_ctx : (s.setResult1 x).ctx = s.ctx := rfl
@[simp] theorem State.setResult1_hctx : (s.setResult1 x).hctx = s.hctx := rfl
@[simp] theorem State.setResult1_rng : (s.setResult1 x).rng = s.rng := rfl
@[simp] theorem State.setResult1_port : (s.setResult1 x).port = s.port := rfl
@[simp] theorem State.setResult1_rdata : (s.setResult1 x).rdata = s.rdata := rfl
end

section
variable (x : Word)
@[simp] theorem State.setResult2_par : (s.setResult2 x).par = s.par := rfl
@[simp] theorem State.setResult2_cmd : (s.setResult2 x).cmd = s.cmd := rfl
@[simp] theorem State.setResult2_src : (s.setResult2 x).src = s.src := rfl
@[simp] theorem State.setResult2_dst : (s.setResult2 x).dst = s.dst := rfl
@[simp] theorem State.setResult2_len : (s.setResult2 x).len = s.len := rfl
@[simp] theorem State.setResult2_arg0 : (s.setResult2 x).arg0 = s.arg0 := rfl
@[simp] theorem State.setResult2_arg1 : (s.setResult2 x).arg1 = s.arg1 := rfl
@[simp] theorem State.setResult2_arg2 : (s.setResult2 x).arg2 = s.arg2 := rfl
@[simp] theorem State.setResult2_errcode : (s.setResult2 x).errcode = s.errcode := rfl
@[simp] theorem State.setResult2_errseen : (s.setResult2 x).errseen = s.errseen := rfl
@[simp] theorem State.setResult2_stfail : (s.setResult2 x).stfail = s.stfail := rfl
@[simp] theorem State.setResult2_result0 : (s.setResult2 x).result0 = s.result0 := rfl
@[simp] theorem State.setResult2_result1 : (s.setResult2 x).result1 = s.result1 := rfl
@[simp] theorem State.setResult2_result2 : (s.setResult2 x).result2 = x := rfl
@[simp] theorem State.setResult2_mem : (s.setResult2 x).mem = s.mem := rfl
@[simp] theorem State.setResult2_ctx : (s.setResult2 x).ctx = s.ctx := rfl
@[simp] theorem State.setResult2_hctx : (s.setResult2 x).hctx = s.hctx := rfl
@[simp] theorem State.setResult2_rng : (s.setResult2 x).rng = s.rng := rfl
@[simp] theorem State.setResult2_port : (s.setResult2 x).port = s.port := rfl
@[simp] theorem State.setResult2_rdata : (s.setResult2 x).rdata = s.rdata := rfl
end

section
variable (a : Nat) (v : List Byte)
@[simp] theorem State.write_par : (s.write a v).par = s.par := rfl
@[simp] theorem State.write_cmd : (s.write a v).cmd = s.cmd := rfl
@[simp] theorem State.write_src : (s.write a v).src = s.src := rfl
@[simp] theorem State.write_dst : (s.write a v).dst = s.dst := rfl
@[simp] theorem State.write_len : (s.write a v).len = s.len := rfl
@[simp] theorem State.write_arg0 : (s.write a v).arg0 = s.arg0 := rfl
@[simp] theorem State.write_arg1 : (s.write a v).arg1 = s.arg1 := rfl
@[simp] theorem State.write_arg2 : (s.write a v).arg2 = s.arg2 := rfl
@[simp] theorem State.write_errcode : (s.write a v).errcode = s.errcode := rfl
@[simp] theorem State.write_errseen : (s.write a v).errseen = s.errseen := rfl
@[simp] theorem State.write_stfail : (s.write a v).stfail = s.stfail := rfl
@[simp] theorem State.write_result0 : (s.write a v).result0 = s.result0 := rfl
@[simp] theorem State.write_result1 : (s.write a v).result1 = s.result1 := rfl
@[simp] theorem State.write_result2 : (s.write a v).result2 = s.result2 := rfl
@[simp] theorem State.write_mem : (s.write a v).mem = s.mem.writeBytes a v := rfl
@[simp] theorem State.write_ctx : (s.write a v).ctx = s.ctx := rfl
@[simp] theorem State.write_hctx : (s.write a v).hctx = s.hctx := rfl
@[simp] theorem State.write_rng : (s.write a v).rng = s.rng := rfl
@[simp] theorem State.write_port : (s.write a v).port = s.port := rfl
@[simp] theorem State.write_rdata : (s.write a v).rdata = s.rdata := rfl
end

section
@[simp] theorem State.okStatus_par : (s.okStatus).par = s.par := rfl
@[simp] theorem State.okStatus_cmd : (s.okStatus).cmd = s.cmd := rfl
@[simp] theorem State.okStatus_src : (s.okStatus).src = s.src := rfl
@[simp] theorem State.okStatus_dst : (s.okStatus).dst = s.dst := rfl
@[simp] theorem State.okStatus_len : (s.okStatus).len = s.len := rfl
@[simp] theorem State.okStatus_arg0 : (s.okStatus).arg0 = s.arg0 := rfl
@[simp] theorem State.okStatus_arg1 : (s.okStatus).arg1 = s.arg1 := rfl
@[simp] theorem State.okStatus_arg2 : (s.okStatus).arg2 = s.arg2 := rfl
@[simp] theorem State.okStatus_errcode : (s.okStatus).errcode = .ok := rfl
@[simp] theorem State.okStatus_errseen : (s.okStatus).errseen = s.errseen := rfl
@[simp] theorem State.okStatus_stfail : (s.okStatus).stfail = s.stfail := rfl
@[simp] theorem State.okStatus_result0 : (s.okStatus).result0 = s.result0 := rfl
@[simp] theorem State.okStatus_result1 : (s.okStatus).result1 = s.result1 := rfl
@[simp] theorem State.okStatus_result2 : (s.okStatus).result2 = s.result2 := rfl
@[simp] theorem State.okStatus_mem : (s.okStatus).mem = s.mem := rfl
@[simp] theorem State.okStatus_ctx : (s.okStatus).ctx = s.ctx := rfl
@[simp] theorem State.okStatus_hctx : (s.okStatus).hctx = s.hctx := rfl
@[simp] theorem State.okStatus_rng : (s.okStatus).rng = s.rng := rfl
@[simp] theorem State.okStatus_port : (s.okStatus).port = s.port := rfl
@[simp] theorem State.okStatus_rdata : (s.okStatus).rdata = s.rdata := rfl
end

section
variable (e : ErrCode)
@[simp] theorem State.errStatus_par : (s.errStatus e).par = s.par := rfl
@[simp] theorem State.errStatus_cmd : (s.errStatus e).cmd = s.cmd := rfl
@[simp] theorem State.errStatus_src : (s.errStatus e).src = s.src := rfl
@[simp] theorem State.errStatus_dst : (s.errStatus e).dst = s.dst := rfl
@[simp] theorem State.errStatus_len : (s.errStatus e).len = s.len := rfl
@[simp] theorem State.errStatus_arg0 : (s.errStatus e).arg0 = s.arg0 := rfl
@[simp] theorem State.errStatus_arg1 : (s.errStatus e).arg1 = s.arg1 := rfl
@[simp] theorem State.errStatus_arg2 : (s.errStatus e).arg2 = s.arg2 := rfl
@[simp] theorem State.errStatus_errcode : (s.errStatus e).errcode = e := rfl
@[simp] theorem State.errStatus_errseen : (s.errStatus e).errseen = true := rfl
@[simp] theorem State.errStatus_stfail : (s.errStatus e).stfail = s.stfail := rfl
@[simp] theorem State.errStatus_result0 : (s.errStatus e).result0 = s.result0 := rfl
@[simp] theorem State.errStatus_result1 : (s.errStatus e).result1 = s.result1 := rfl
@[simp] theorem State.errStatus_result2 : (s.errStatus e).result2 = s.result2 := rfl
@[simp] theorem State.errStatus_mem : (s.errStatus e).mem = s.mem := rfl
@[simp] theorem State.errStatus_ctx : (s.errStatus e).ctx = s.ctx := rfl
@[simp] theorem State.errStatus_hctx : (s.errStatus e).hctx = s.hctx := rfl
@[simp] theorem State.errStatus_rng : (s.errStatus e).rng = s.rng := rfl
@[simp] theorem State.errStatus_port : (s.errStatus e).port = s.port := rfl
@[simp] theorem State.errStatus_rdata : (s.errStatus e).rdata = s.rdata := rfl
end

section
variable (x : Word)
@[simp] theorem State.writeStatus_par : (s.writeStatus x).par = s.par := rfl
@[simp] theorem State.writeStatus_cmd : (s.writeStatus x).cmd = s.cmd := rfl
@[simp] theorem State.writeStatus_src : (s.writeStatus x).src = s.src := rfl
@[simp] theorem State.writeStatus_dst : (s.writeStatus x).dst = s.dst := rfl
@[simp] theorem State.writeStatus_len : (s.writeStatus x).len = s.len := rfl
@[simp] theorem State.writeStatus_arg0 : (s.writeStatus x).arg0 = s.arg0 := rfl
@[simp] theorem State.writeStatus_arg1 : (s.writeStatus x).arg1 = s.arg1 := rfl
@[simp] theorem State.writeStatus_arg2 : (s.writeStatus x).arg2 = s.arg2 := rfl
@[simp] theorem State.writeStatus_errcode : (s.writeStatus x).errcode = s.errcode := rfl
@[simp] theorem State.writeStatus_errseen : (s.writeStatus x).errseen = (s.errseen && !x.getLsbD 8) := rfl
@[simp] theorem State.writeStatus_stfail : (s.writeStatus x).stfail = s.stfail := rfl
@[simp] theorem State.writeStatus_result0 : (s.writeStatus x).result0 = s.result0 := rfl
@[simp] theorem State.writeStatus_result1 : (s.writeStatus x).result1 = s.result1 := rfl
@[simp] theorem State.writeStatus_result2 : (s.writeStatus x).result2 = s.result2 := rfl
@[simp] theorem State.writeStatus_mem : (s.writeStatus x).mem = s.mem := rfl
@[simp] theorem State.writeStatus_ctx : (s.writeStatus x).ctx = s.ctx := rfl
@[simp] theorem State.writeStatus_hctx : (s.writeStatus x).hctx = s.hctx := rfl
@[simp] theorem State.writeStatus_rng : (s.writeStatus x).rng = s.rng := rfl
@[simp] theorem State.writeStatus_port : (s.writeStatus x).port = s.port := rfl
@[simp] theorem State.writeStatus_rdata : (s.writeStatus x).rdata = s.rdata := rfl
end

section
variable (n : Nat)
@[simp] theorem State.afterDraw_par : (s.afterDraw n).par = s.par := rfl
@[simp] theorem State.afterDraw_cmd : (s.afterDraw n).cmd = s.cmd := rfl
@[simp] theorem State.afterDraw_src : (s.afterDraw n).src = s.src := rfl
@[simp] theorem State.afterDraw_dst : (s.afterDraw n).dst = s.dst := rfl
@[simp] theorem State.afterDraw_len : (s.afterDraw n).len = s.len := rfl
@[simp] theorem State.afterDraw_arg0 : (s.afterDraw n).arg0 = s.arg0 := rfl
@[simp] theorem State.afterDraw_arg1 : (s.afterDraw n).arg1 = s.arg1 := rfl
@[simp] theorem State.afterDraw_arg2 : (s.afterDraw n).arg2 = s.arg2 := rfl
@[simp] theorem State.afterDraw_errcode : (s.afterDraw n).errcode = s.errcode := rfl
@[simp] theorem State.afterDraw_errseen : (s.afterDraw n).errseen = s.errseen := rfl
@[simp] theorem State.afterDraw_stfail : (s.afterDraw n).stfail = s.stfail := rfl
@[simp] theorem State.afterDraw_result0 : (s.afterDraw n).result0 = s.result0 := rfl
@[simp] theorem State.afterDraw_result1 : (s.afterDraw n).result1 = s.result1 := rfl
@[simp] theorem State.afterDraw_result2 : (s.afterDraw n).result2 = s.result2 := rfl
@[simp] theorem State.afterDraw_mem : (s.afterDraw n).mem = s.mem := rfl
@[simp] theorem State.afterDraw_ctx : (s.afterDraw n).ctx = s.ctx := rfl
@[simp] theorem State.afterDraw_hctx : (s.afterDraw n).hctx = s.hctx := rfl
@[simp] theorem State.afterDraw_rng : (s.afterDraw n).rng = (s.rng.bytes Config.entropy n).2 := rfl
@[simp] theorem State.afterDraw_port : (s.afterDraw n).port = s.port := rfl
@[simp] theorem State.afterDraw_rdata : (s.afterDraw n).rdata = s.rdata := rfl
end

end Sys2Proof.Machine
end

