-- ==== Sys2Proof/Laws/Ops.lean ====
section
/-! SUPPORT. What each shared operation can do, said once: if it answers a next state, then one of these cases holds. -/
namespace Sys2Proof.Machine

variable {s t : State}

@[simp] theorem raise_eq_next {e : ErrCode} : raise e s = .next t ↔ t = s.errStatus e := by
  unfold raise
  exact ⟨fun h => (Host.Outcome.next.inj h).symm, fun h => h ▸ rfl⟩

@[simp] theorem succeed_eq_next : succeed s = .next t ↔ t = s.okStatus := by
  unfold succeed
  exact ⟨fun h => (Host.Outcome.next.inj h).symm, fun h => h ▸ rfl⟩

@[simp] theorem raise_ne_fault {e : ErrCode} {f : Fault} : raise e s ≠ .fault f := nofun

@[simp] theorem succeed_ne_fault {f : Fault} : succeed s ≠ .fault f := nofun

/-- R304, as a law: locked, the command fails with SelfTestFailed; otherwise it goes on. -/
theorem unlocked_eq_next {k : Res} :
    unlocked s k = .next t ↔ s.stfail = true ∧ t = s.errStatus .selfTestFailed ∨ s.stfail = false ∧ k = .next t := by
  unfold unlocked
  cases s.stfail <;> simp

@[simp] theorem unlocked_of_passed {k : Res} (h : s.stfail = false) : unlocked s k = k := by simp [unlocked, h]

@[simp] theorem unlocked_of_failed {k : Res} (h : s.stfail = true) : unlocked s k = raise .selfTestFailed s := by
  simp [unlocked, h]

/-- BadContext or the context (R303). -/
theorem withCtx_eq_next {c : CtxIx} {k : CipherCtx → Res} :
    withCtx c s k = .next t ↔
      s.ctx[c.toNat]? = none ∧ t = s.errStatus .badContext ∨ ∃ x, s.ctx[c.toNat]? = some x ∧ k x = .next t := by
  unfold withCtx
  cases s.ctx[c.toNat]? <;> simp

@[simp] theorem withCtx_of_some {c : CtxIx} {k : CipherCtx → Res} {x : CipherCtx} (h : s.ctx[c.toNat]? = some x) :
    withCtx c s k = k x := by simp [withCtx, h]

@[simp] theorem withCtx_of_none {c : CtxIx} {k : CipherCtx → Res} (h : s.ctx[c.toNat]? = none) :
    withCtx c s k = raise .badContext s := by simp [withCtx, h]

/-- BadContext or the context (R303). -/
theorem withHctx_eq_next {h : CtxIx} {k : HmacCtx → Res} :
    withHctx h s k = .next t ↔
      s.hctx[h.toNat]? = none ∧ t = s.errStatus .badContext ∨ ∃ y, s.hctx[h.toNat]? = some y ∧ k y = .next t := by
  unfold withHctx
  cases s.hctx[h.toNat]? <;> simp

@[simp] theorem withHctx_of_some {h : CtxIx} {k : HmacCtx → Res} {y : HmacCtx} (hy : s.hctx[h.toNat]? = some y) :
    withHctx h s k = k y := by simp [withHctx, hy]

@[simp] theorem withHctx_of_none {h : CtxIx} {k : HmacCtx → Res} (hy : s.hctx[h.toNat]? = none) :
    withHctx h s k = raise .badContext s := by simp [withHctx, hy]

/-- A command that consumes bytes goes on only where they have been written (R78). -/
theorem withBytes_eq_next {a n : Nat} {k : List Byte → Res} :
    withBytes s a n k = .next t ↔ ∃ bs, s.mem.readBytes a n = some bs ∧ k bs = .next t := by
  unfold withBytes State.read
  cases s.mem.readBytes a n <;> simp

@[simp] theorem withBytes_of_some {a n : Nat} {k : List Byte → Res} {bs : List Byte}
    (h : s.mem.readBytes a n = some bs) : withBytes s a n k = k bs := by simp [withBytes, State.read, h]

@[simp] theorem withBytes_of_none {a n : Nat} {k : List Byte → Res} (h : s.mem.readBytes a n = none) :
    withBytes s a n k = .refused .unwrittenDmem := by simp [withBytes, State.read, h]

/-- What the data checks can come to (R173): an error that leaves all but STATUS as it was, or the command's own work on
a keyed context and the bytes of SRC, with every check passed. -/
theorem dataChecks_eq_next {c : CtxIx} {mode : Chain} {d : Dir} {k : CipherCtx → List Byte → Res}
    (h : dataChecks c mode d s k = .next t) :
    (∃ e, e ≠ .ok ∧ t = s.errStatus e) ∨
      ∃ x p, s.stfail = false ∧ s.ctx[c.toNat]? = some x ∧ x.alg ≠ .none ∧ s.len.toNat ≠ 0 ∧ s.len.toNat % x.bs = 0 ∧
        s.inBounds s.src s.len.toNat ∧ s.inBounds s.dst s.len.toNat ∧ (mode = .none ∨ x.chain = mode) ∧
        (mode = .none ∨ x.dir = .unset ∨ x.dir = d) ∧ s.mem.readBytes s.src.toNat s.len.toNat = some p ∧
        k x p = .next t := by
  unfold dataChecks at h
  rcases unlocked_eq_next.1 h with ⟨-, rfl⟩ | ⟨hl, h⟩
  · exact .inl ⟨_, by decide, rfl⟩
  rcases withCtx_eq_next.1 h with ⟨-, rfl⟩ | ⟨x, hx, h⟩
  · exact .inl ⟨_, by decide, rfl⟩
  split at h
  · exact .inl ⟨_, by decide, raise_eq_next.1 h⟩
  rename_i h1
  split at h
  · exact .inl ⟨_, by decide, raise_eq_next.1 h⟩
  rename_i h2
  split at h
  · exact .inl ⟨_, by decide, raise_eq_next.1 h⟩
  rename_i h3
  split at h
  · exact .inl ⟨_, by decide, raise_eq_next.1 h⟩
  rename_i h4
  split at h
  · exact .inl ⟨_, by decide, raise_eq_next.1 h⟩
  rename_i h5
  split at h
  · exact .inl ⟨_, by decide, raise_eq_next.1 h⟩
  rename_i h6
  obtain ⟨p, hp, h⟩ := withBytes_eq_next.1 h
  exact .inr ⟨x, p, hl, hx, h1, by tauto, by tauto, by tauto, by tauto, by tauto, by tauto, hp, h⟩

/-- What CBC_INIT and CFB_INIT can come to (R170, R171). -/
theorem chainInit_eq_next {c : CtxIx} {z : Bool} {mode : Chain} (h : chainInit c z mode s = .next t) :
    (∃ e, e ≠ .ok ∧ t = s.errStatus e) ∨
      ∃ x iv, s.stfail = false ∧ s.ctx[c.toNat]? = some x ∧ x.alg ≠ .none ∧
        (z = true ∧ iv = zeros x.bs ∨ z = false ∧ s.mem.readBytes s.src.toNat x.bs = some iv) ∧
        t = (s.setCtx c { x with V := iv, chain := mode, dir := .unset }).okStatus := by
  unfold chainInit at h
  rcases unlocked_eq_next.1 h with ⟨-, rfl⟩ | ⟨hl, h⟩
  · exact .inl ⟨_, by decide, rfl⟩
  rcases withCtx_eq_next.1 h with ⟨-, rfl⟩ | ⟨x, hx, h⟩
  · exact .inl ⟨_, by decide, rfl⟩
  split at h
  · exact .inl ⟨_, by decide, raise_eq_next.1 h⟩
  rename_i hk
  split at h
  · rename_i hz
    exact .inr ⟨x, _, hl, hx, hk, .inl ⟨hz, rfl⟩, succeed_eq_next.1 h⟩
  rename_i hz
  split at h
  · exact .inl ⟨_, by decide, raise_eq_next.1 h⟩
  obtain ⟨iv, hiv, h⟩ := withBytes_eq_next.1 h
  exact .inr ⟨x, iv, hl, hx, hk, .inr ⟨by simpa using hz, hiv⟩, succeed_eq_next.1 h⟩

/-- What the common checks of a codec command can come to (R90, R303). -/
theorem codecChecks_eq_next {u : Bool} {h : CtxIx} {k : Option HmacCtx → Res} (hn : codecChecks u h s k = .next t) :
    (∃ e, e ≠ .ok ∧ t = s.errStatus e) ∨
      hmacFieldsOk u h = true ∧ s.stfail = false ∧
        ∃ y, (u = false ∧ y = none ∨ u = true ∧ y.isSome ∧ s.hctx[h.toNat]? = y) ∧ k y = .next t := by
  unfold codecChecks at hn
  split at hn
  · exact .inl ⟨_, by decide, raise_eq_next.1 hn⟩
  rename_i hw
  rcases unlocked_eq_next.1 hn with ⟨-, rfl⟩ | ⟨hl, hn⟩
  · exact .inl ⟨_, by decide, rfl⟩
  split at hn
  · rename_i hu
    rcases withHctx_eq_next.1 hn with ⟨-, rfl⟩ | ⟨y, hy, hn⟩
    · exact .inl ⟨_, by decide, rfl⟩
    · exact .inr ⟨by simpa using hw, hl, some y, .inr ⟨hu, rfl, hy⟩, hn⟩
  · rename_i hu
    exact .inr ⟨by simpa using hw, hl, none, .inl ⟨by simpa using hu, rfl⟩, hn⟩

/-- The host port takes the first pending access and no other. -/
theorem step_cons {op : HostOp} {rest : List HostOp} (h : s.port = op :: rest) :
    step s = hostAccess op { s with port := rest } := by simp [step, portStep, h]

/-- With no pending access the block is idle (R316). -/
theorem step_idle (h : s.port = []) : step s = .next s := by simp [step, portStep, h]

end Sys2Proof.Machine
end

