-- ==== Sys2Proof/Laws/Algorithms.lean ====
section
/-! SUPPORT. The sizes of what the algorithms return, and what drawing random bytes, absorbing into a hash and ending a
chained data command do, each said once. -/
namespace Sys2Proof.Machine

/-! ## Byte strings -/

@[simp] theorem LE32_length (x : Word) : (LE32 x).length = 4 := rfl
@[simp] theorem BE32_length (x : Word) : (BE32 x).length = 4 := rfl
@[simp] theorem LE64_length (x : BitVec 64) : (LE64 x).length = 8 := rfl
@[simp] theorem BE64_length (x : BitVec 64) : (BE64 x).length = 8 := rfl
@[simp] theorem zeros_length (n : Nat) : (zeros n).length = n := List.length_replicate

@[simp] theorem xorBytes_length (a b : List Byte) : (xorBytes a b).length = min a.length b.length := by
  simp [xorBytes]

@[simp] theorem le32_LE32 (x : Word) : le32 (LE32 x) = x := by
  unfold le32 LE32
  ext i hi
  simp only [List.getD_cons_zero, List.getD_cons_succ, BitVec.getElem_append, BitVec.getElem_extractLsb']
  split
  · exact congrArg x.getLsbD (by omega) |>.trans (BitVec.getLsbD_eq_getElem hi)
  split
  · exact congrArg x.getLsbD (by omega) |>.trans (BitVec.getLsbD_eq_getElem hi)
  split
  · exact congrArg x.getLsbD (by omega) |>.trans (BitVec.getLsbD_eq_getElem hi)
  · exact congrArg x.getLsbD (by omega) |>.trans (BitVec.getLsbD_eq_getElem hi)

/-! ## Blocks -/

@[simp] theorem blocks_length (bs k : Nat) (p : List Byte) : (blocks bs k p).length = k := by
  induction k generalizing p with
  | zero => rfl
  | succ k ih => simp [blocks, ih]

/-- Every block of a byte string that holds them all is whole. -/
theorem length_of_mem_blocks {bs k : Nat} {p b : List Byte} (hp : k * bs ≤ p.length) (hb : b ∈ blocks bs k p) :
    b.length = bs := by
  induction k generalizing p with
  | zero => simp [blocks] at hb
  | succ k ih =>
    rw [Nat.add_mul, Nat.one_mul] at hp
    rcases List.mem_cons.1 hb with rfl | hb
    · simp; omega
    · exact ih (by simp; omega) hb

/-- Cutting a byte string into blocks and joining them again gives back what was cut. -/
theorem blocks_flatten {bs k : Nat} (p : List Byte) : (blocks bs k p).flatten = p.take (k * bs) := by
  induction k generalizing p with
  | zero => simp [blocks]
  | succ k ih =>
    simp only [blocks, List.flatten_cons, ih]
    rw [Nat.add_mul, Nat.one_mul, Nat.add_comm, List.take_add]

/-! ## The primitives -/

@[simp] theorem bfE_length (t : BfSched) (b : List Byte) : (bfE t b).length = 8 := rfl
@[simp] theorem bfD_length (t : BfSched) (b : List Byte) : (bfD t b).length = 8 := rfl
@[simp] theorem tfE_length (t : TfSched) (b : List Byte) : (tfE t b).length = 16 := rfl
@[simp] theorem tfD_length (t : TfSched) (b : List Byte) : (tfD t b).length = 16 := rfl

/-- A keyed context enciphers to whole blocks (R115, R151). -/
theorem CipherCtx.blockEnc_length {x : CipherCtx} (hx : x.Ok) (hk : x.alg ≠ .none) (b : List Byte) :
    (x.blockEnc b).length = x.bs := by
  have := hx.bs_eq
  cases h : x.alg <;> simp_all [CipherCtx.blockEnc, Config.bfBlockSize, Config.tfBlockSize]

/-- A keyed context deciphers to whole blocks (R115, R151). -/
theorem CipherCtx.blockDec_length {x : CipherCtx} (hx : x.Ok) (hk : x.alg ≠ .none) (b : List Byte) :
    (x.blockDec b).length = x.bs := by
  have := hx.bs_eq
  cases h : x.alg <;> simp_all [CipherCtx.blockDec, Config.bfBlockSize, Config.tfBlockSize]

/-! ## SHA-256 -/

@[simp] theorem HashVal.bytes_length (H : HashVal) : H.bytes.length = 32 := rfl
@[simp] theorem ShaStream.final_length (st : ShaStream) : st.final.length = 32 := rfl
@[simp] theorem sha256_length (m : List Byte) : (sha256 m).length = 32 := rfl

@[simp] theorem ShaStream.update_tot (st : ShaStream) (d : List Byte) : (st.update d).tot = st.tot + d.length := rfl

/-- Absorbing leaves the bytes of an incomplete block pending (R201). -/
@[simp] theorem ShaStream.update_pend_length (st : ShaStream) (d : List Byte) :
    (st.update d).pend.length = (st.pend.length + d.length) % 64 := by
  simp only [ShaStream.update, List.length_drop, List.length_append]
  omega

/-! ## The generator -/

/-- What serving one byte keeps (R272): the generator stays in order and its period and seed string stay. -/
theorem Rng.byte_ok (oracle : Nat → List Byte × List Byte) {g : Rng} (h : g.Ok) :
    (g.byte oracle).2.Ok ∧ (g.byte oracle).2.rcycle = g.rcycle ∧ (g.byte oracle).2.rseed = g.rseed := by
  obtain ⟨h1, h2, h3, h4, h5, h6⟩ := h
  simp only [Rng.byte, Rng.ready, Rng.refill]
  have hc : 1 ≤ g.rcycle.toNat := by
    rcases Nat.eq_zero_or_pos g.rcycle.toNat with h0 | h0
    · exact absurd (BitVec.eq_of_toNat_eq h0) h4
    · exact h0
  split
  · split
    · refine ⟨⟨?_, by simp [Rng.refillFrom], rfl, h4, ?_, h6⟩, rfl, rfl⟩
      · simp [Rng.refillFrom]
      · simp only [Rng.refillFrom, Rng.rebuild]
        bv_omega
    · rename_i hl
      refine ⟨⟨?_, by simp [Rng.refillFrom], h3, h4, ?_, h6⟩, rfl, rfl⟩
      · simp [Rng.refillFrom]
      · simp only [Rng.refillFrom]
        bv_omega
  · exact ⟨⟨h1, by simp only; omega, h3, h4, h5, h6⟩, rfl, rfl⟩

/-- Drawing `n` bytes gives `n` bytes (R272). -/
@[simp] theorem Rng.bytes_length (oracle : Nat → List Byte × List Byte) (g : Rng) (n : Nat) :
    (g.bytes oracle n).1.length = n := by
  induction n generalizing g with
  | zero => rfl
  | succ n ih => simp [Rng.bytes, ih]

/-- Drawing keeps the generator in order (R272). -/
theorem Rng.bytes_ok (oracle : Nat → List Byte × List Byte) {g : Rng} (h : g.Ok) (n : Nat) : (g.bytes oracle n).2.Ok := by
  induction n generalizing g with
  | zero => exact h
  | succ n ih => simpa [Rng.bytes] using ih (Rng.byte_ok oracle h).1

@[simp] theorem State.drawn_length (s : State) (n : Nat) : (s.drawn n).length = n := Rng.bytes_length _ _ _

/-! ## The codec -/

/-- A field's wire has room for its header, its data and, in V1/V2, the rest of the header block (R242, R243). -/
theorem wireLen_ge (n : Nat) (v : Format) : 5 + n + (if v = .v12 then 3 else 0) ≤ wireLen n v := by
  cases v
  · simp only [wireLen, fieldCount, codecBs, ceilDiv, if_true]
    have := Nat.le_max_right 1 ((n + 8 - 1) / 8)
    omega
  · simp only [wireLen, fieldCount, codecBs, ceilDiv, reduceCtorEq, if_false]
    omega

/-- The wire of a field is as long as R241 says, when it gets all of its filler. -/
theorem fieldWire_length {v : Format} {t : Byte} {D filler : List Byte} (h : filler.length = fillerLen D.length v) :
    (fieldWire v t D filler).length = wireLen D.length v := by
  have := wireLen_ge D.length v
  cases v <;> simp_all [fieldWire, fillerLen] <;> omega

/-- What U = 1 does to the state (R225). -/
theorem hmacAbsorb_some (h : CtxIx) (y : HmacCtx) (d : List Byte) (s : State) :
    hmacAbsorb h (some y) d s = s.setHctx h (y.absorb d) := rfl

/-- With U = 0 nothing is absorbed (R225). -/
@[simp] theorem hmacAbsorb_none (h : CtxIx) (d : List Byte) (s : State) : hmacAbsorb h none d s = s := rfl

/-- The end of a chained data command (R176 to R179), and nothing else. -/
theorem chainDone_eq_next {c : CtxIx} {x : CipherCtx} {d : Dir} {r : List (List Byte) × List Byte} {s t : State} :
    chainDone c x d r s = .next t ↔
      t = { s with ctx := s.ctx.set c.toNat { x with V := r.2, dir := d }
                   mem := s.mem.writeBytes s.dst.toNat r.1.flatten, errcode := .ok } := succeed_eq_next

end Sys2Proof.Machine
end

