-- ==== Sys2Proof/Laws/Invariant.lean ====
section
/-! SUPPORT. Every named update of the state keeps the invariant `State.Ok`, each under the condition it needs. -/
namespace Sys2Proof.Machine

variable {s : State}

theorem State.ok_errStatus (h : s.Ok) (e : ErrCode) : (s.errStatus e).Ok := by
  obtain ⟨a, b, c, d, f, g, i, j, k, l⟩ := h
  exact ⟨a, b, c, d, f, g, i, j, k, l⟩

theorem State.ok_okStatus (h : s.Ok) : s.okStatus.Ok := by
  obtain ⟨a, b, c, d, f, g, i, j, k, l⟩ := h
  exact ⟨a, b, c, d, f, g, i, j, k, l⟩

theorem State.ok_setResult0 (h : s.Ok) (x : Word) : (s.setResult0 x).Ok := by
  obtain ⟨a, b, c, d, f, g, i, j, k, l⟩ := h
  exact ⟨a, b, c, d, f, g, i, j, k, l⟩

theorem State.ok_setResult1 (h : s.Ok) (x : Word) : (s.setResult1 x).Ok := by
  obtain ⟨a, b, c, d, f, g, i, j, k, l⟩ := h
  exact ⟨a, b, c, d, f, g, i, j, k, l⟩

theorem State.ok_setResult2 (h : s.Ok) (x : Word) : (s.setResult2 x).Ok := by
  obtain ⟨a, b, c, d, f, g, i, j, k, l⟩ := h
  exact ⟨a, b, c, d, f, g, i, j, k, l⟩

theorem State.ok_setRng (h : s.Ok) {g : Rng} (hg : g.Ok) : (s.setRng g).Ok := by
  obtain ⟨a, b, c, d, f, e, i, j, k, -⟩ := h
  exact ⟨a, b, c, d, f, e, i, j, k, hg⟩

theorem State.ok_afterDraw (h : s.Ok) (n : Nat) : (s.afterDraw n).Ok := State.ok_setRng h (Rng.bytes_ok _ h.rng n)

theorem State.ok_setCtx (h : s.Ok) {c : CtxIx} {x : CipherCtx} (hx : x.Ok) : (s.setCtx c x).Ok := by
  obtain ⟨a, b, b', d, f, e, i, j, k, l⟩ := h
  refine ⟨a, by simpa [State.nctx] using b, by simpa [State.nctx] using b', d, f, e, i, fun y hy => ?_, k, l⟩
  rcases List.mem_or_eq_of_mem_set hy with hy | rfl
  · exact j y hy
  · exact hx

theorem State.ok_setHctx (h : s.Ok) {i : CtxIx} {y : HmacCtx} (hy : y.Ok) : (s.setHctx i y).Ok := by
  obtain ⟨a, b, b', d, f, e, m, j, k, l⟩ := h
  refine ⟨a, b, b', by simpa [State.nhctx] using d, by simpa [State.nhctx] using f, e, m, j, fun z hz => ?_, l⟩
  rcases List.mem_or_eq_of_mem_set hz with hz | rfl
  · exact k z hz
  · exact hy

/-- A write inside DMEM keeps the invariant, the canonical form of DMEM with it. -/
theorem State.ok_write (h : s.Ok) {a : Nat} {v : List Byte} (hv : a + v.length ≤ s.par.dmemSize) : (s.write a v).Ok := by
  obtain ⟨a', b, b', d, f, e, i, j, k, l⟩ := h
  exact ⟨a', b, b', d, f, Memory.wf_writeBytes e _ _, Memory.writeBytes_addr_lt i hv, j, k, l⟩

theorem State.ctx_ok_of_getElem? (h : s.Ok) {c : CtxIx} {x : CipherCtx} (hx : s.ctx[c.toNat]? = some x) : x.Ok :=
  h.ctx x (List.mem_of_getElem? hx)

theorem State.hctx_ok_of_getElem? (h : s.Ok) {i : CtxIx} {y : HmacCtx} (hy : s.hctx[i.toNat]? = some y) : y.Ok :=
  h.hctx y (List.mem_of_getElem? hy)

/-- A keyed context keeps its order under a new vector, mode and direction (R34). -/
theorem CipherCtx.ok_with_vector {x : CipherCtx} (hx : x.Ok) (hk : x.alg ≠ .none) {V : List Byte} {ch : Chain} {d : Dir}
    (hV : V.length = x.bs) (hch : ch ≠ .none ∨ d = .unset) : ({ x with V := V, chain := ch, dir := d } : CipherCtx).Ok := by
  obtain ⟨a, -, -, -, e, f, g, i⟩ := hx
  exact ⟨a, hV, fun hc => hch.resolve_left (absurd hc), fun h => absurd h hk, e, f, g, i⟩

/-- Absorbing keeps an accumulating context in order (R225). -/
theorem HmacCtx.ok_absorb {y : HmacCtx} (h : y.Ok) (hp : y.phase = .accum) (d : List Byte) : (y.absorb d).Ok := by
  obtain ⟨a, b, c, -, -, f⟩ := h
  exact ⟨by simp [HmacCtx.absorb, a], b, c, by simp [HmacCtx.absorb, hp], by simp [HmacCtx.absorb, hp], f⟩

/-- A digest keeps its context in order (R222). -/
theorem HmacCtx.ok_digested {y : HmacCtx} (h : y.Ok) : y.digested.Ok := by
  unfold HmacCtx.digested
  split
  · exact ⟨rfl, h.okey_length, rfl, nofun, fun _ => rfl, nofun⟩
  · exact h

end Sys2Proof.Machine
end

