-- ==== Sys2Proof/Laws/PerInstr.lean ====
section
/-! SUPPORT. A law for each command as syntax: the OP field of its encoding is the opcode that R89 gives it, its reserved
bits are 0 (R86), and the opcode is in the map. -/
namespace Sys2Proof.Laws.OpcodeField

/-- R86, R89, R90: in the encoding of `i`, bits 7:0 are its opcode, bits 31:19 are 0, and the opcode map has a row for
it. -/
def Statement (i : Instr) : Prop :=
  (fieldsOf (encode i)).op = i.opcode ∧ (fieldsOf (encode i)).reserved = 0 ∧ (opcodeRow (fieldsOf (encode i))).isSome = true

theorem nop : Statement .nop := by unfold Statement; decide
theorem bfKey (c : CtxIx) : Statement (.bfKey c) := by revert c; unfold Statement; decide
theorem tfKey (c : CtxIx) : Statement (.tfKey c) := by revert c; unfold Statement; decide
theorem cbcInit (c : CtxIx) (z : Bool) : Statement (.cbcInit c z) := by revert c z; unfold Statement; decide
theorem ctxClear (c : CtxIx) : Statement (.ctxClear c) := by revert c; unfold Statement; decide
theorem bfWeakchk (c : CtxIx) : Statement (.bfWeakchk c) := by revert c; unfold Statement; decide
theorem cfbInit (c : CtxIx) (z : Bool) : Statement (.cfbInit c z) := by revert c z; unfold Statement; decide
theorem ecbEnc (c : CtxIx) : Statement (.ecbEnc c) := by revert c; unfold Statement; decide
theorem ecbDec (c : CtxIx) : Statement (.ecbDec c) := by revert c; unfold Statement; decide
theorem cbcEnc (c : CtxIx) : Statement (.cbcEnc c) := by revert c; unfold Statement; decide
theorem cbcDec (c : CtxIx) : Statement (.cbcDec c) := by revert c; unfold Statement; decide
theorem cfbEnc (c : CtxIx) : Statement (.cfbEnc c) := by revert c; unfold Statement; decide
theorem cfbDec (c : CtxIx) : Statement (.cfbDec c) := by revert c; unfold Statement; decide
theorem sha256 : Statement .sha256 := by unfold Statement; decide
theorem kdf : Statement .kdf := by unfold Statement; decide
theorem hmacInit (h : CtxIx) : Statement (.hmacInit h) := by revert h; unfold Statement; decide
theorem hmacUpdate (h : CtxIx) : Statement (.hmacUpdate h) := by revert h; unfold Statement; decide
theorem hmacDigest (h : CtxIx) : Statement (.hmacDigest h) := by revert h; unfold Statement; decide
theorem hctxClear (h : CtxIx) : Statement (.hctxClear h) := by revert h; unfold Statement; decide
theorem blkPad (v : Format) (u : Bool) (h : CtxIx) : Statement (.blkPad v u h) := by cases v <;> revert u h <;> unfold Statement <;> decide
theorem fieldEnc (v : Format) (u : Bool) (h : CtxIx) : Statement (.fieldEnc v u h) := by cases v <;> revert u h <;> unfold Statement <;> decide
theorem fieldDec (v : Format) (u : Bool) (h : CtxIx) : Statement (.fieldDec v u h) := by cases v <;> revert u h <;> unfold Statement <;> decide
theorem fieldCount (v : Format) : Statement (.fieldCount v) := by cases v <;> unfold Statement <;> decide
theorem fieldTerm (v : Format) : Statement (.fieldTerm v) := by cases v <;> unfold Statement <;> decide
theorem rngBytes : Statement .rngBytes := by unfold Statement; decide
theorem rngByte : Statement .rngByte := by unfold Statement; decide
theorem rngInt : Statement .rngInt := by unfold Statement; decide
theorem rngLong : Statement .rngLong := by unfold Statement; decide
theorem rngBound : Statement .rngBound := by unfold Statement; decide
theorem rngSeed : Statement .rngSeed := by unfold Statement; decide
theorem rngCycle : Statement .rngCycle := by unfold Statement; decide

end Sys2Proof.Laws.OpcodeField
end

