-- ==== Sys2Proof/Tests/Slice0.lean ====
section
/-! SUPPORT. Our own tests: the well-formedness smoke, a word written out for every command, one or two steps for each
command against values of the spec, and for every obligation with hypotheses a state that meets them. -/
namespace Sys2Proof.Tests

open Sys2Proof.Machine

/-! ## Helpers -/

/-- A block with 256 bytes of DMEM, two cipher contexts and two HMAC contexts. -/
def par : Params := { dmemSize := 256, tf64 := .pad128, rngCycleReset := 1 }

/-- That block right after reset. -/
def fresh : State := State.afterReset 2 2 par true 0 []

/-- That block with bytes in DMEM and values in the operand registers. -/
def prep (at0 : Nat) (bytes : List Byte) (src dst len : Word) (arg0 arg1 arg2 : Word := 0) : State :=
  { fresh with mem := Memory.writeBytes [] at0 bytes, src := src, dst := dst, len := len, arg0 := arg0, arg1 := arg1,
               arg2 := arg2 }

/-- `n` bytes counting up from `a`. -/
def upFrom (a n : Nat) : List Byte := (List.range n).map fun i => BitVec.ofNat 8 (a + i)

/-- The next state of an outcome, read through `f`. -/
def after {α : Type} (r : Res) (f : State → α) : Option α := (Res.state? r).map f

/-- STATUS after a command. -/
def status (i : Instr) (s : State) : Option Word := after (exec i s) State.statusWord

/-- A Blowfish context with the all-zero schedule, under which a block's halves are exchanged. -/
def bfCtx (ch : Chain) (d : Dir) (V : List Byte) : CipherCtx :=
  { CipherCtx.reset with alg := .bf, chain := ch, dir := d, V := V }

/-- A Twofish context with zero subkeys and one zero S-box key word. -/
def tfCtx (ch : Chain) (d : Dir) : CipherCtx :=
  { CipherCtx.reset with alg := .tf, tf := { TfSched.zero with k := 1, Sk := [0] }, bs := 16, chain := ch, dir := d,
                         V := zeros 16 }

/-- An HMAC context that has absorbed nothing but the inner pad of an empty seed. -/
def accumCtx : HmacCtx := { HmacCtx.reset with phase := .accum, okey := zeros 64, ist := ShaStream.init }

/-- An HMAC context with a memoised digest. -/
def doneCtx : HmacCtx := { HmacCtx.reset with phase := .done, memo := upFrom 0 32 }

/-! ## Well-formedness -/

theorem test_wellFormed_refuses_blkPad : (Instr.blkPad .v3 false 1).wellFormed = false := by decide
theorem test_wellFormed_refuses_fieldEnc : (Instr.fieldEnc .v12 false 15).wellFormed = false := by decide
theorem test_wellFormed_refuses_fieldDec : (Instr.fieldDec .v3 false 8).wellFormed = false := by decide
theorem test_wellFormed_accepts_u : (Instr.fieldEnc .v3 true 1).wellFormed = true := by decide

/-! ## Decoding: words written out field by field from R86 and R89 (reserved, Z, V, U, H, C, OP) -/

/-- A command word from the bit fields of R86, written out from bit 31 down. -/
def word (z v u : BitVec 1) (h c : BitVec 4) (op : BitVec 8) : Word := (0 : BitVec 13) ++ z ++ v ++ u ++ h ++ c ++ op

theorem test_decode_NOP : decode (word 0 0 0 0 0 0x00) = .ok .nop := by decide
theorem test_decode_BF_KEY : decode 0b0000_0000_0000_0000_0000_0001_0000_0001 = .ok (.bfKey 1) := by decide
theorem test_decode_TF_KEY : decode (word 0 0 0 0 15 0x02) = .ok (.tfKey 15) := by decide
theorem test_decode_CBC_INIT : decode 0b0000_0000_0000_0100_0000_0000_0000_0011 = .ok (.cbcInit 0 true) := by decide
theorem test_decode_CTX_CLEAR : decode (word 0 0 0 0 3 0x04) = .ok (.ctxClear 3) := by decide
theorem test_decode_BF_WEAKCHK : decode (word 0 0 0 0 2 0x05) = .ok (.bfWeakchk 2) := by decide
theorem test_decode_CFB_INIT : decode (word 0 0 0 0 9 0x06) = .ok (.cfbInit 9 false) := by decide
theorem test_decode_ECB_ENC : decode 0b0000_0000_0000_0000_0000_1010_0001_0000 = .ok (.ecbEnc 10) := by decide
theorem test_decode_ECB_DEC : decode (word 0 0 0 0 4 0x11) = .ok (.ecbDec 4) := by decide
theorem test_decode_CBC_ENC : decode (word 0 0 0 0 5 0x12) = .ok (.cbcEnc 5) := by decide
theorem test_decode_CBC_DEC : decode (word 0 0 0 0 6 0x13) = .ok (.cbcDec 6) := by decide
theorem test_decode_CFB_ENC : decode (word 0 0 0 0 7 0x14) = .ok (.cfbEnc 7) := by decide
theorem test_decode_CFB_DEC : decode (word 0 0 0 0 8 0x15) = .ok (.cfbDec 8) := by decide
theorem test_decode_SHA256 : decode 0b0000_0000_0000_0000_0000_0000_0010_0000 = .ok .sha256 := by decide
theorem test_decode_KDF : decode (word 0 0 0 0 0 0x21) = .ok .kdf := by decide
theorem test_decode_HMAC_INIT : decode (word 0 0 0 3 0 0x28) = .ok (.hmacInit 3) := by decide
theorem test_decode_HMAC_UPDATE : decode (word 0 0 0 12 0 0x29) = .ok (.hmacUpdate 12) := by decide
theorem test_decode_HMAC_DIGEST : decode 0b0000_0000_0000_0000_0001_0000_0010_1010 = .ok (.hmacDigest 1) := by decide
theorem test_decode_HCTX_CLEAR : decode (word 0 0 0 2 0 0x2B) = .ok (.hctxClear 2) := by decide
theorem test_decode_BLK_PAD : decode (word 0 1 1 5 0 0x30) = .ok (.blkPad .v3 true 5) := by decide
theorem test_decode_FIELD_ENC : decode 0b0000_0000_0000_0011_0000_0000_0011_0001 = .ok (.fieldEnc .v3 true 0) := by decide
theorem test_decode_FIELD_DEC : decode (word 0 0 1 9 0 0x32) = .ok (.fieldDec .v12 true 9) := by decide
theorem test_decode_FIELD_COUNT : decode (word 0 1 0 0 0 0x33) = .ok (.fieldCount .v3) := by decide
theorem test_decode_FIELD_TERM : decode (word 0 0 0 0 0 0x34) = .ok (.fieldTerm .v12) := by decide
theorem test_decode_RNG_BYTES : decode 0b0000_0000_0000_0000_0000_0000_0100_0000 = .ok .rngBytes := by decide
theorem test_decode_RNG_BYTE : decode (word 0 0 0 0 0 0x41) = .ok .rngByte := by decide
theorem test_decode_RNG_INT : decode (word 0 0 0 0 0 0x42) = .ok .rngInt := by decide
theorem test_decode_RNG_LONG : decode (word 0 0 0 0 0 0x43) = .ok .rngLong := by decide
theorem test_decode_RNG_BOUND : decode (word 0 0 0 0 0 0x44) = .ok .rngBound := by decide
theorem test_decode_RNG_SEED : decode (word 0 0 0 0 0 0x45) = .ok .rngSeed := by decide
theorem test_decode_RNG_CYCLE : decode (word 0 0 0 0 0 0x46) = .ok .rngCycle := by decide

/-- The boundaries of the undefined opcodes of R91. -/
theorem test_decode_undefined : [0x07, 0x0F, 0x16, 0x1F, 0x22, 0x27, 0x2C, 0x2F, 0x35, 0x3F, 0x47, 0xFF].all
    (fun op => decide (decode (BitVec.ofNat 32 op) = .error .undefinedOpcode)) = true := by decide
theorem test_decode_reserved : decode 0x00080000 = .error .reservedBits := by decide
theorem test_decode_unused_field : decode 0x00000120 = .error .unusedField := by decide
/-- R255: U = 0 with H = 1 is illegal. -/
theorem test_decode_h_without_u : decode 0x00021031 = .error .hmacIndexWithoutU := by decide
theorem test_decodeTableWord : decodeTableWord 32 0x00000101 = some (.bfKey 1) := by decide
/-- R93: `cbc.init0 c0` writes the word 0x00040003 of R170's example. -/
theorem test_pseudo_cbc_init0 : (Pseudo.cbcInit0 0).expand.map Stmt.op = [.writeReg .w32 0x00 0x00040003] := by decide

/-! ## One step for each command, against the spec's own values -/

/-- R307: NOP after a failing command leaves STATUS = 0x00000100. -/
theorem test_NOP : status .nop { fresh with errcode := .badContext, errseen := true } = some 0x00000100 := by decide
/-- R116: LEN = 57 raises InvalidKeyLength. -/
theorem test_BF_KEY_length : status (.bfKey 0) (prep 0 [] 0 0 57) = some 0x00000103 := by decide
/-- R112: a 1-byte key XORs its byte into all four bytes of every word; P0[0] is 243F6A88 (R111). -/
theorem test_BF_KEY_mix : (bfMixKey [0x5A]).p 0 = 0x243F6A88 ^^^ 0x5A5A5A5A := by decide +kernel
/-- R150: LEN = 12 raises InvalidKeyLength. -/
theorem test_TF_KEY_length : status (.tfKey 0) (prep 0 [] 0 0 12) = some 0x00000103 := by decide
/-- R152: for the key 0123456789ABCDEF under K1, Sk = (B89FF6F2) and K[0] = 51168002. -/
theorem test_TF_KEY_k1 : after
    (exec (.tfKey 1) { prep 0 [0x01, 0x23, 0x45, 0x67, 0x89, 0xAB, 0xCD, 0xEF] 0 0 8 with par := { par with tf64 := .k1 } })
    (fun t => (t.ctxAt 1).tf.Sk = [0xB89FF6F2] ∧ (t.ctxAt 1).tf.key 0 = 0x51168002 ∧ (t.ctxAt 0).alg = .none) =
      some True := by
  refine congrArg some (propext ⟨fun _ => trivial, fun _ => ?_⟩)
  decide +kernel
/-- R152: h(0, (0, 0)) = 6F01A38B. -/
theorem test_h : tfH 2 0 [0, 0] = 0x6F01A38B := by decide +kernel
/-- R170: with Z = 1 the vector is zero and SRC, here out of bounds, is not looked at. -/
theorem test_CBC_INIT : after (exec (.cbcInit 0 true) { prep 0 [] 0xFFFFFFFF 0 0 with ctx := [bfCtx .none .unset (upFrom 1 8)] })
    (fun t => ((t.ctxAt 0).V, (t.ctxAt 0).chain)) = some (zeros 8, .cbc) := by decide
/-- R170: an unkeyed context raises NotKeyed before SRC is looked at. -/
theorem test_CBC_INIT_unkeyed : status (.cbcInit 0 false) (prep 0 [] 0xFFFFFFFF 0 0) = some 0x00000104 := by decide
/-- R172: ECB_ENC on a cleared context raises NotKeyed. -/
theorem test_CTX_CLEAR : (after (exec (.ctxClear 0) { fresh with ctx := [bfCtx .cbc .enc (zeros 8)] })
    fun t => status (.ecbEnc 0) t) = some (some 0x00000104) := by decide
/-- R117: BF_WEAKCHK on a Twofish context raises ModeMismatch. -/
theorem test_BF_WEAKCHK : status (.bfWeakchk 0) { fresh with ctx := [tfCtx .none .unset] } = some 0x0000010D := by decide
/-- R171: CFB_INIT reads the IV from DMEM. -/
theorem test_CFB_INIT : after (exec (.cfbInit 0 false) { prep 7 (upFrom 1 8) 7 0 0 with ctx := [bfCtx .none .enc (zeros 8)] })
    (fun t => ((t.ctxAt 0).V, (t.ctxAt 0).chain, (t.ctxAt 0).dir)) = some (upFrom 1 8, .cfb, .unset) := by decide
/-- R185: under the key 00×16 the zero block enciphers to 9F589F5C...C35A. -/
theorem test_ECB_ENC : after
    (exec (.ecbEnc 0) { prep 0 (zeros 16) 0 0x40 16 with ctx := [CipherCtx.keyedTf .pad128 (zeros 16)] })
    (fun t => t.mem.readBytes 0x40 16) =
      some (some [0x9F, 0x58, 0x9F, 0x5C, 0xF6, 0x12, 0x2C, 0x32, 0xB6, 0xBF, 0xEC, 0x2F, 0x2A, 0xE8, 0xC3, 0x5A]) := by
  decide +kernel
/-- R185: LEN = 12 on a Blowfish context raises InvalidLength. -/
theorem test_ECB_ENC_length : status (.ecbEnc 0) { prep 0 [] 0 0 12 with ctx := [bfCtx .none .unset (zeros 8)] } =
    some 0x00000101 := by decide
/-- By hand from R113: a zero schedule leaves only the exchange of the halves; in place (R174). -/
theorem test_ECB_DEC : after (exec (.ecbDec 0) { prep 0 (upFrom 1 16) 0 0 16 with ctx := [bfCtx .none .unset (zeros 8)] })
    (fun t => t.mem.readBytes 0 16) = some (some (upFrom 5 4 ++ upFrom 1 4 ++ upFrom 13 4 ++ upFrom 9 4)) := by
  decide +kernel
/-- By hand from R176 with that exchange: the second block is chained on the first ciphertext block. -/
theorem test_CBC_ENC : after
    (exec (.cbcEnc 0) { prep 0 ([1, 2, 3, 4, 5, 6, 7, 8] ++ zeros 8) 0 0x20 16 with
                        ctx := [bfCtx .cbc .unset [0x10, 0, 0, 0, 0, 0, 0, 0x80]] })
    (fun t => (t.mem.readBytes 0x20 16, (t.ctxAt 0).V, (t.ctxAt 0).dir)) =
      some (some [5, 6, 7, 0x88, 0x11, 2, 3, 4, 0x11, 2, 3, 4, 5, 6, 7, 0x88], [0x11, 2, 3, 4, 5, 6, 7, 0x88], .enc) := by
  decide +kernel
/-- R185: CBC_DEC after CBC_ENC on the same context: STATUS 0x00000102. -/
theorem test_CBC_DEC_direction : status (.cbcDec 0) { prep 0 (zeros 8) 0 0 8 with ctx := [bfCtx .cbc .enc (zeros 8)] } =
    some 0x00000102 := by decide
/-- By hand from R177: the inverse of `test_CBC_ENC`. -/
theorem test_CBC_DEC : after
    (exec (.cbcDec 0) { prep 0 [5, 6, 7, 0x88, 0x11, 2, 3, 4, 0x11, 2, 3, 4, 5, 6, 7, 0x88] 0 0 16 with
                        ctx := [bfCtx .cbc .unset [0x10, 0, 0, 0, 0, 0, 0, 0x80]] })
    (fun t => (t.mem.readBytes 0 16, (t.ctxAt 0).V, (t.ctxAt 0).dir)) =
      some (some ([1, 2, 3, 4, 5, 6, 7, 8] ++ zeros 8), [0x11, 2, 3, 4, 5, 6, 7, 0x88], .dec) := by
  decide +kernel
/-- R185: CFB_ENC on a context initialised for CBC raises ModeMismatch. -/
theorem test_CFB_ENC_mode : status (.cfbEnc 0) { prep 0 (zeros 8) 0 0 8 with ctx := [bfCtx .cbc .unset (zeros 8)] } =
    some 0x0000010D := by decide
/-- By hand from R178 with the exchange of halves. -/
theorem test_CFB_ENC : after
    (exec (.cfbEnc 0) { prep 0 ([1, 2, 3, 4, 5, 6, 7, 8] ++ zeros 8) 0 0x20 16 with
                        ctx := [bfCtx .cfb .unset [0x10, 0, 0, 0, 0, 0, 0, 0x80]] })
    (fun t => (t.mem.readBytes 0x20 16, (t.ctxAt 0).V)) =
      some (some [1, 2, 3, 0x84, 0x15, 6, 7, 8, 0x15, 6, 7, 8, 1, 2, 3, 0x84], [0x15, 6, 7, 8, 1, 2, 3, 0x84]) := by
  decide +kernel
/-- By hand from R179: the inverse of `test_CFB_ENC`, whose vector is the ciphertext just consumed. -/
theorem test_CFB_DEC : after
    (exec (.cfbDec 0) { prep 0 [1, 2, 3, 0x84, 0x15, 6, 7, 8, 0x15, 6, 7, 8, 1, 2, 3, 0x84] 0 0 16 with
                        ctx := [bfCtx .cfb .unset [0x10, 0, 0, 0, 0, 0, 0, 0x80]] })
    (fun t => (t.mem.readBytes 0 16, (t.ctxAt 0).V)) =
      some (some ([1, 2, 3, 4, 5, 6, 7, 8] ++ zeros 8), [0x15, 6, 7, 8, 1, 2, 3, 0x84]) := by
  decide +kernel
/-- R208: SHA256("abc"). -/
theorem test_SHA256 : after (exec .sha256 (prep 1 [0x61, 0x62, 0x63] 1 0x40 3)) (fun t => t.mem.readBytes 0x40 32) =
    some (some [0xBA, 0x78, 0x16, 0xBF, 0x8F, 0x01, 0xCF, 0xEA, 0x41, 0x41, 0x40, 0xDE, 0x5D, 0xAE, 0x22, 0x23,
                0xB0, 0x03, 0x61, 0xA3, 0x96, 0x17, 0x7A, 0x9C, 0xB4, 0x10, 0xFF, 0x61, 0xF2, 0x00, 0x15, 0xAD]) := by
  decide +kernel
/-- R204: ARG2 = 2047 raises InvalidParameter. -/
theorem test_KDF : status .kdf (prep 0 [] 0 0 0 0 0 2047) = some 0x0000010C := by decide
/-- R228: HMAC_INIT with LEN = 65 raises InvalidParameter. -/
theorem test_HMAC_INIT : status (.hmacInit 1) (prep 0 [] 0 0 65) = some 0x0000010C := by decide
/-- R228: H = 2 with NHCTX = 2 raises BadContext. -/
theorem test_HMAC_INIT_context : status (.hmacInit 2) (prep 0 [] 0 0 0) = some 0x00000105 := by decide
/-- R221: an update absorbs its bytes, and one in DONE raises StateError. -/
theorem test_HMAC_UPDATE : after (exec (.hmacUpdate 0) { prep 0 [1, 2] 0 0 2 with hctx := [accumCtx] })
    (fun t => ((t.hctxAt 0).ist.pend, (t.hctxAt 0).ist.tot)) = some ([1, 2], 2) := by decide
theorem test_HMAC_UPDATE_done : status (.hmacUpdate 0) { prep 0 [1, 2] 0 0 2 with hctx := [doneCtx] } =
    some 0x00000109 := by decide
/-- R228, RFC 4231 case 1: seed 0B×20, message "Hi There", in two updates. -/
theorem test_HMAC_DIGEST : after
    (exec (.hmacDigest 0) { prep 0 [] 0 0x80 0 with
      hctx := [((HmacCtx.start (List.replicate 20 0x0B)).absorb [0x48, 0x69, 0x20]).absorb [0x54, 0x68, 0x65, 0x72, 0x65]] })
    (fun t => t.mem.readBytes 0x80 32) =
      some (some [0xB0, 0x34, 0x4C, 0x61, 0xD8, 0xDB, 0x38, 0x53, 0x5C, 0xA8, 0xAF, 0xCE, 0xAF, 0x0B, 0xF1, 0x2B,
                  0x88, 0x1D, 0xC2, 0x00, 0xC9, 0x83, 0x3D, 0xA7, 0x26, 0xE9, 0x37, 0x6C, 0x2E, 0x32, 0xCF, 0xF7]) := by
  decide +kernel
/-- R223: HMAC_DIGEST on a cleared context raises StateError. -/
theorem test_HCTX_CLEAR : (after (exec (.hctxClear 0) { fresh with hctx := [doneCtx] })
    fun t => status (.hmacDigest 0) t) = some (some 0x00000109) := by decide
/-- R244: n = 0 writes nothing and RESULT0 = 0. -/
theorem test_BLK_PAD : after (exec (.blkPad .v3 false 0) { prep 0 [] 0 0 0 with result0 := 5 })
    (fun t => (t.result0, t.mem)) = some (0, []) := by decide
/-- R255: BLK_PAD (V1/V2) of one byte reports 8. -/
theorem test_BLK_PAD_length : after (exec (.blkPad .v12 false 0) (prep 0 [1] 0 8 1)) (fun t => t.result0) = some 8 := by
  decide
/-- R255: t = 255 raises ReservedType. -/
theorem test_FIELD_ENC_reserved : status (.fieldEnc .v3 false 0) (prep 0 [] 0 0 1 1 255) = some 0x00000107 := by decide
/-- R255: the wires of FIELD_ENC v3 with n = 12 and s = 3, and of V1/V2 with n = 9, for the filler bytes listed there. -/
theorem test_FIELD_ENC_wires :
    fieldWire .v3 0x01 ([1, 2, 3] ++ zeros 9) [0xD4, 0xDB, 0x1D, 0x46, 0xC4, 0xEB, 0x04, 0x11, 0xBD, 0x70, 0xE2, 0x16, 0x95, 0x77, 0x70] =
      [0x0C, 0, 0, 0, 1, 1, 2, 3, 0, 0, 0, 0, 0, 0, 0, 0, 0, 0xD4, 0xDB, 0x1D, 0x46, 0xC4, 0xEB, 0x04, 0x11, 0xBD, 0x70,
       0xE2, 0x16, 0x95, 0x77, 0x70] ∧
    fieldWire .v12 0x42 (upFrom 1 9) [0xD4, 0xDB, 0x1D, 0x46, 0xC4, 0xEB, 0x04, 0x11, 0xBD, 0x70] =
      [9, 0, 0, 0, 0x42, 0xD4, 0xDB, 0x1D, 1, 2, 3, 4, 5, 6, 7, 8, 9, 0x46, 0xC4, 0xEB, 0x04, 0x11, 0xBD, 0x70] := by
  decide
/-- R246: the "Hans Hase" wire gives type 6, length 9 and 16 wire bytes. -/
theorem test_FIELD_DEC : after
    (exec (.fieldDec .v3 false 0) (prep 0 [9, 0, 0, 0, 6, 0x48, 0x61, 0x6E, 0x73, 0x20, 0x48, 0x61, 0x73, 0x65, 0xD4, 0xDB] 0 0x20 16))
    (fun t => (t.result0, t.result1, t.result2, t.mem.readBytes 0x20 9)) =
      some (6, 9, 16, some [0x48, 0x61, 0x6E, 0x73, 0x20, 0x48, 0x61, 0x73, 0x65]) := by decide
/-- R255: with L = 15 it raises Truncated. R246, R78: with L = 16 a filler byte that nothing has written is refused. -/
theorem test_FIELD_DEC_truncated : status (.fieldDec .v3 false 0) (prep 0 ([9, 0, 0, 0, 6] ++ zeros 11) 0 0 15) =
      some 0x00000108 ∧
    exec (.fieldDec .v3 false 0) (prep 0 ([9, 0, 0, 0, 6] ++ zeros 10) 0 0 16) = .refused .unwrittenDmem := ⟨by decide, rfl⟩
/-- R254: the largest counts, both for n = 2^32-1. -/
theorem test_FIELD_COUNT : after (exec (.fieldCount .v3) (prep 0 [] 0 0 0 0xFFFFFFFF)) (fun t => t.result0) = some 268435457 ∧
    after (exec (.fieldCount .v12) (prep 0 [] 0 0 0 0xFFFFFFFF)) (fun t => t.result0) = some 536870913 := by decide
/-- R254: the counts of V3 and V1/V2 around the block boundaries. -/
theorem test_FIELD_COUNT_table : [0, 8, 9, 11, 12, 16, 17, 24, 25, 27, 28, 32, 43, 44].map (fun n => (fieldCount n .v3, fieldCount n .v12)) =
    [(1, 2), (1, 2), (1, 3), (1, 3), (2, 3), (2, 3), (2, 4), (2, 4), (2, 5), (2, 5), (3, 5), (3, 5), (3, 7), (4, 7)] := by
  decide
/-- R248: the terminator of V1/V2 is 16 bytes and counts two blocks. -/
theorem test_FIELD_TERM : after (exec (.fieldTerm .v12) (prep 0 [] 0 0xF0 0)) (fun t => (t.result0, t.result1)) =
    some (16, 2) := by decide
/-- R275: the region must be in bounds, and an empty one at the end is (R64). -/
theorem test_RNG_BYTES : status .rngBytes (prep 0 [] 0 0xF1 16) = some 0x00000106 ∧
    status .rngBytes (prep 0 [] 0 0x100 0) = some 0 := by decide
/-- R283: the stream of a fresh generator with empty entropy answers and RNG_CYCLE_RESET = 1. -/
theorem test_RNG_stream : ((Rng.reset 1 0).bytes (fun _ => ([], [])) 15).1 =
    [0xD4, 0xDB, 0x1D, 0x46, 0xC4, 0xEB, 0x04, 0x11, 0xBD, 0x70, 0xE2, 0x16, 0x95, 0x77, 0x70] := by decide +kernel
/-- R283: with the seed string "seed" the first bytes are 5C48664E. -/
theorem test_RNG_SEED_stream : ((Rng.bytes (fun _ => ([], [])) 4) { Rng.reset 1 0 with rseed := [0x73, 0x65, 0x65, 0x64] }).1 =
    [0x5C, 0x48, 0x66, 0x4E] := by decide +kernel
/-- R276: RNG_BYTE takes the next unread byte. -/
theorem test_RNG_BYTE : after (exec .rngByte { fresh with rng := { Rng.reset 1 0 with rbuf := upFrom 0x80 64, ridx := 63 } })
    (fun t => (t.result0, t.rng.ridx)) = some (0xBF, 64) := by decide
/-- R277: RNG_INT reads four bytes little-endian. -/
theorem test_RNG_INT : after (exec .rngInt { fresh with rng := { Rng.reset 1 0 with rbuf := upFrom 0x80 64, ridx := 0 } })
    (fun t => t.result0) = some 0x83828180 := by decide
/-- R278: RNG_LONG puts the low word in RESULT0. -/
theorem test_RNG_LONG : after (exec .rngLong { fresh with rng := { Rng.reset 1 0 with rbuf := upFrom 0x80 64, ridx := 0 } })
    (fun t => (t.result0, t.result1)) = some (0x83828180, 0x87868584) := by decide
/-- R279: the sign bit goes first: 0x83828180 gives 0x03828180, which is 58884480. -/
theorem test_RNG_BOUND : after (exec .rngBound { fresh with arg0 := 1000, rng := { Rng.reset 1 0 with rbuf := upFrom 0x80 64, ridx := 0 } })
    (fun t => t.result0) = some 480 := by decide
/-- R283: b = 0x80000000 raises InvalidParameter. -/
theorem test_RNG_BOUND_large : status .rngBound { fresh with arg0 := 0x80000000 } = some 0x0000010C := by decide
/-- R283: n = 65 raises InvalidParameter. -/
theorem test_RNG_SEED : status .rngSeed (prep 0 [] 0 0 65) = some 0x0000010C := by decide
/-- R281: RNG_CYCLE sets the period and forces a rebuild. -/
theorem test_RNG_CYCLE : after (exec .rngCycle { fresh with arg0 := 7, rng := { Rng.reset 1 0 with rleft := 3 } })
    (fun t => (t.rng.rcycle, t.rng.rleft)) = some (7, 0) := by decide

/-! ## The host port -/

/-- R68: after a 32-bit write of 0x11223344 at 0, the byte at 0 is 0x44 and the byte at 3 is 0x11. -/
theorem test_host_bytes : after (step { fresh with port := [.writeMem .w32 0 0x11223344] })
    (fun t => (t.mem.get 0, t.mem.get 3)) = some (some 0x44, some 0x11) := by decide
/-- R27: CAPS of a block with two contexts of each kind and PAD128. -/
theorem test_host_caps : after (step { fresh with port := [.readReg .w32 0x2C] }) (fun t => t.rdata) =
    some (some 0x00010202) := by decide
/-- R78: a read of a byte that nothing has written is refused. -/
theorem test_host_unwritten : step { fresh with port := [.readMem .w8 0] } = .refused .unwrittenDmem := rfl

/-! ## Witnesses: for every obligation with hypotheses, operands and states that meet them, clause by clause -/

theorem reset_ctx_ok : CipherCtx.reset.Ok := by constructor <;> first | rfl | (intro h; cases h; done) | (intro _; rfl)
theorem reset_hctx_ok : HmacCtx.reset.Ok := by constructor <;> first | rfl | (intro h; cases h; done) | (intro _; rfl)
theorem bfCtx_ok {ch : Chain} {d : Dir} {V : List Byte} (hV : V.length = 8) (h : ch ≠ .none ∨ d = .unset) : (bfCtx ch d V).Ok :=
  ⟨rfl, hV, fun hc => h.resolve_left (absurd hc), nofun, fun _ => rfl, nofun, nofun, rfl⟩
theorem tfCtx_ok {ch : Chain} {d : Dir} (h : ch ≠ .none ∨ d = .unset) : (tfCtx ch d).Ok :=
  ⟨rfl, rfl, fun hc => h.resolve_left (absurd hc), nofun, nofun, fun _ => rfl, fun _ => ⟨Nat.le_refl 1, Nat.le_of_ble_eq_true rfl⟩, rfl⟩
theorem reset_rng_ok : (Rng.reset 1 0).Ok := by constructor <;> decide
theorem par_ok : Params.Ok par := by constructor <;> decide

theorem fresh_ok : fresh.Ok :=
  ⟨par_ok, by decide, by decide, by decide, by decide, rfl, nofun,
   fun _ h => (List.eq_of_mem_replicate h) ▸ reset_ctx_ok, fun _ h => (List.eq_of_mem_replicate h) ▸ reset_hctx_ok, reset_rng_ok⟩

theorem prep_ok (a : Nat) (b : List Byte) (src dst len arg0 arg1 arg2 : Word) (h : a + b.length ≤ 256) :
    (prep a b src dst len arg0 arg1 arg2).Ok := by
  obtain ⟨a', c, c', d, f, e, i, j, k, l⟩ := State.ok_write fresh_ok (a := a) (v := b) h
  exact ⟨a', c, c', d, f, e, i, j, k, l⟩

theorem witness_DecodeInvertsEncode :
    (Instr.blkPad .v3 false 0).wellFormed = true ∧ (Instr.fieldDec .v12 true 15).wellFormed = true := by decide
theorem witness_EncodingIsUnique : decode 0x0003F031 = .ok (.fieldEnc .v3 true 15) := by decide
theorem witness_IllegalWordsRaise_reserved : (0x00080000 : Word).extractLsb' 19 13 ≠ 0 := by decide
theorem witness_IllegalWordsRaise_opcode : undefinedOpcode ((0x00000007 : Word).extractLsb' 0 8).toNat ∧
    undefinedOpcode ((0x000000FF : Word).extractLsb' 0 8).toNat := by unfold undefinedOpcode; decide
theorem witness_IllegalWordsRaise_field : ∀ i : Instr, i.wellFormed = true → encode i ≠ 0x00000120 := by
  intro i h
  clear h
  cases i <;> first | decide | (rename_i v u h; cases v <;> revert u h <;> decide) | (rename_i a b; revert a b; decide) | (rename_i a; revert a; decide) | (rename_i v; cases v <;> decide)
theorem witness_IllegalWordsRaise_legal : (Instr.fieldEnc .v3 true 0).wellFormed = true ∧
    encode (.fieldEnc .v3 true 0) = 0x00030031 := by decide
/-- A state whose host does `op` next. -/
def host (ops : List HostOp) : State := { fresh with port := ops }
theorem witness_StepRunsTheDecodedCommand :
    (host [.writeReg .w32 0x00 0x101]).port = [.writeReg .w32 0x00 0x101] ∧ decode 0x101 = .ok (.bfKey 1) ∧
    decode 0x120 = .error .unusedField ∧ decodeTableWord 32 0x101 = some (.bfKey 1) ∧ fresh.port = [] :=
  ⟨rfl, by decide, by decide, by decide, rfl⟩
theorem witness_RegisterAccessRule : ∀ o ∈ [0x00, 0xFC, 0x100, 0x02], ∀ w ∈ [Width.w8, .w32],
    ∃ s t : State, s.port = .readReg w o :: [] ∧ t.port = .writeReg w o 5 :: [] :=
  fun o _ w _ => ⟨host [.readReg w o], host [.writeReg w o 5], rfl, rfl⟩
theorem witness_ReservedAndReadOnlyRegisters : ∀ o ∈ [0x34, 0xFC, 0x20, 0x30], o % 4 = 0 ∧
    (0x34 ≤ o ∧ o ≤ 0xFC ∨ o = 0x20 ∨ o = 0x24 ∨ o = 0x28 ∨ o = 0x2C ∨ o = 0x30) ∧
    (host [.readReg .w32 o]).port = .readReg .w32 o :: [] ∧ (host [.writeReg .w32 o 5]).port = .writeReg .w32 o 5 :: [] := by
  decide
theorem witness_OperandRegisters : ∀ o ∈ [0x00, 0x04, 0x08, 0x0C, 0x10, 0x14, 0x18, 0x20, 0x24, 0x28],
    (host [.writeReg .w32 o 5]).port = .writeReg .w32 o 5 :: [] ∧ (host [.readReg .w32 o]).port = .readReg .w32 o :: [] :=
  fun _ _ => ⟨rfl, rfl⟩
theorem witness_StatusRegister : (host [.readReg .w32 0x1C]).port = .readReg .w32 0x1C :: [] ∧
    (host [.writeReg .w32 0x1C 0x100]).port = .writeReg .w32 0x1C 0x100 :: [] := ⟨rfl, rfl⟩
theorem witness_CapabilityRegisters : ∃ s t : State, s.Ok ∧ step s = .next t := ⟨fresh, fresh, fresh_ok, rfl⟩
theorem witness_HostDmemAccess : ∀ w ∈ [Width.w8, .w16, .w32], ∀ a ∈ [0, 252, 255, 256],
    ∃ s t : State, s.port = .readMem w a :: [] ∧ t.port = .writeMem w a 5 :: [] :=
  fun w _ a _ => ⟨host [.readMem w a], host [.writeMem w a 5], rfl, rfl⟩
theorem witness_HostDmemAccess_bytes : (prep 252 (upFrom 1 4) 0 0 0).mem.readBytes 252 Width.w32.bytes = some (upFrom 1 4) ∧
    fresh.mem.readBytes 0 1 = none := by decide
theorem witness_MixedWidthAccess : ∀ op ∈ [HostOp.readMem .w8 252, .readMem .w8 255, .readMem .w16 252, .readMem .w16 254, .readMem .w32 252],
    ∃ s t : State, s.port = .writeMem .w32 252 0x11223344 :: op :: [] ∧ step s = .next t :=
  fun op _ => ⟨host [.writeMem .w32 252 0x11223344, op], _, rfl, rfl⟩
theorem witness_HostReadsHaveNoSideEffect : (∃ s t : State, s.port = .readReg .w32 0x1C :: [] ∧ step s = .next t) ∧
    ∃ s t : State, s.port = .readMem .w8 3 :: [] ∧ step s = .next t :=
  ⟨⟨host [.readReg .w32 0x1C], _, rfl, rfl⟩, { prep 3 [9] 0 0 0 with port := [.readMem .w8 3] }, _, rfl, rfl⟩
theorem witness_PseudoInstructionsWriteTheirOperands : (∀ a b, Pseudo.rngByte ≠ .db a b) ∧ Pseudo.rngByte ≠ .clrerr :=
  ⟨nofun, nofun⟩
theorem witness_PlatformReset : (host [.reset false]).port = .reset false :: [] ∧ (host [.reset true]).port = .reset true :: [] :=
  ⟨rfl, rfl⟩
theorem witness_CipherContextResetValue : (1 : CtxIx).toNat < fresh.nctx ∧ CipherCtx.reset ∈ State.reset.ctx :=
  ⟨by decide, List.mem_cons_self⟩
theorem witness_HmacContextResetValue : (1 : CtxIx).toNat < fresh.nhctx ∧ HmacCtx.reset ∈ State.reset.hctx :=
  ⟨by decide, List.mem_cons_self⟩
theorem witness_EveryStepKeepsOk : ∃ s t : State, s.Ok ∧ s.port = [.writeMem .w8 255 7] ∧ step s = .next t := by
  obtain ⟨a', c, c', d, f, e, i, j, k, l⟩ := fresh_ok
  exact ⟨host [.writeMem .w8 255 7], _, ⟨a', c, c', d, f, e, i, j, k, l⟩, rfl, rfl⟩
theorem witness_StatusAtTheEndOfACommand :
    (∃ t, exec .nop fresh = .next t ∧ t.errcode = .ok) ∧ (∃ t, exec (.ecbEnc 0) fresh = .next t ∧ t.errcode = .notKeyed) ∧
    ∃ s t : State, s.errseen = true ∧ step s = .next t ∧ t.errseen = false :=
  ⟨⟨_, rfl, rfl⟩, ⟨_, rfl, rfl⟩, { host [.writeReg .w32 0x1C 0x100] with errseen := true }, _, rfl, rfl, rfl⟩
theorem witness_SelfTestLock : { fresh with stfail := true }.stfail = true ∧ Instr.sha256.wellFormed = true ∧
    Instr.sha256 ≠ .nop ∧ (∀ c, Instr.sha256 ≠ .ctxClear c) ∧ (∀ h, Instr.sha256 ≠ .hctxClear h) ∧
    (1 : CtxIx).toNat < { fresh with stfail := true }.nctx ∧ (1 : CtxIx).toNat < { fresh with stfail := true }.nhctx ∧
    ∃ s t : State, step s = .next t ∧ t.stfail ≠ s.stfail :=
  ⟨rfl, rfl, nofun, nofun, nofun, by decide, by decide, host [.reset false], _, rfl, by decide⟩
theorem witness_CommandsKeepOperands : ∃ s t : State, exec .sha256 s = .next t ∧ t.errcode = .ok :=
  ⟨prep 0 [1] 0 1 1, _, rfl, rfl⟩
theorem witness_FirstFailingCheckDecides_raises : verdict (prep 0 [1] 0 225 1) (gates .sha256 (prep 0 [1] 0 225 1)) =
    .raises .outOfBounds := by decide
theorem witness_FirstFailingCheckDecides_unreadable : verdict (prep 0 [1] 0 224 2) (gates .sha256 (prep 0 [1] 0 224 2)) =
    .unreadable := by decide
theorem witness_FirstFailingCheckDecides_passes : verdict (prep 0 [1] 0 224 1) (gates .sha256 (prep 0 [1] 0 224 1)) =
    .passes := by decide
theorem witness_WriteFootprint : (∃ s t : State, s.Ok ∧ exec .sha256 s = .next t ∧ t.errcode = .ok) ∧
    ∃ s t : State, s.Ok ∧ exec .sha256 s = .next t ∧ t.errcode ≠ .ok :=
  ⟨⟨prep 0 [1] 0 224 1, _, prep_ok _ _ _ _ _ _ _ _ (by decide), rfl, rfl⟩,
   prep 0 [1] 0 225 1, _, prep_ok _ _ _ _ _ _ _ _ (by decide), rfl, nofun⟩
theorem witness_ContextIsolation : (∃ t, exec (.ctxClear 0) fresh = .next t) ∧
    (∀ c, Instr.cipherIx (.ctxClear 0) = some c → c.toNat ≠ 1) ∧ (∀ h, Instr.hmacIx (.ctxClear 0) = some h → h.toNat ≠ 0) ∧
    Instr.touchesRng (.ctxClear 0) = false := by
  refine ⟨⟨_, rfl⟩, ?_, nofun, rfl⟩
  intro c h; cases h; decide
theorem witness_ResultRegistersKept : (∃ t, exec (.fieldCount .v3) fresh = .next t ∧ t.result0 ≠ fresh.result0) ∧
    (∃ t, exec (.fieldTerm .v12) fresh = .next t ∧ t.result1 ≠ fresh.result1) ∧
    ∃ s t : State, exec (.fieldDec .v3 false 0) s = .next t ∧ t.result2 ≠ s.result2 :=
  ⟨⟨_, rfl, by decide⟩, ⟨_, rfl, by decide⟩, prep 0 (zeros 16) 0 0 16, _, rfl, by decide⟩
/-- A state with eight zero bytes in DMEM, `LEN` = 8 and one keyed context. -/
def keyed (x : CipherCtx) : State := { prep 0 (zeros 8) 0 0 8 with ctx := [x] }
theorem witness_DirectionChanges :
    (∃ t y, exec (.cbcEnc 0) (keyed (bfCtx .cbc .unset (zeros 8))) = .next t ∧ t.ctx[0]? = some y ∧ y.dir = .enc) ∧
    (∃ t y, exec (.cfbDec 0) (keyed (bfCtx .cfb .unset (zeros 8))) = .next t ∧ t.ctx[0]? = some y ∧ y.dir = .dec) ∧
    ∃ t y, exec (.cfbInit 0 true) (keyed (bfCtx .cbc .enc (zeros 8))) = .next t ∧ t.ctx[0]? = some y ∧ y.dir = .unset :=
  ⟨⟨_, _, rfl, rfl, rfl⟩, ⟨_, _, rfl, rfl, rfl⟩, _, _, rfl, rfl, rfl⟩
theorem witness_DirectionLock :
    ∀ q ∈ [(Chain.cbc, Instr.cbcEnc 0), (.cbc, .cbcDec 0), (.cfb, .cfbEnc 0), (.cfb, .cfbDec 0)],
    ∃ t x, exec q.2 (keyed (bfCtx q.1 .unset (zeros 8))) = .next t ∧ t.errcode = .ok ∧
      t.ctx[(0 : CtxIx).toNat]? = some x ∧ t.stfail = false ∧ t.len ≠ 0 ∧ t.len.toNat % x.bs = 0 ∧
      t.inBounds t.src t.len.toNat ∧ t.inBounds t.dst t.len.toNat := by
  intro q hq
  fin_cases hq <;> exact ⟨_, _, rfl, rfl, rfl, rfl, nofun, rfl, by decide, by decide⟩
theorem witness_BfKeyEffect : ∀ n ∈ [1, 56], ∃ (s : State) (k : List Byte), s.stfail = false ∧ (1 : CtxIx).toNat < s.nctx ∧
    s.len.toNat = n ∧ s.src.toNat + s.len.toNat ≤ s.par.dmemSize ∧ s.mem.readBytes s.src.toNat s.len.toNat = some k := by
  intro n hn
  fin_cases hn
  · exact ⟨prep 255 [7] 255 0 1, _, rfl, by decide, rfl, by decide, rfl⟩
  · exact ⟨prep 200 (zeros 56) 200 0 56, _, rfl, by decide, rfl, by decide, rfl⟩
theorem witness_TfKeyEffect : ∀ n ∈ [(8 : Word), 16, 24, 32], ∃ (s : State) (m : List Byte), s.stfail = false ∧
    (1 : CtxIx).toNat < s.nctx ∧ s.len = n ∧ s.src.toNat + s.len.toNat ≤ s.par.dmemSize ∧
    s.mem.readBytes s.src.toNat s.len.toNat = some m := by
  intro n hn
  fin_cases hn
  · exact ⟨prep 0 (zeros 32) 0 0 8, _, rfl, by decide, rfl, by decide, rfl⟩
  · exact ⟨prep 0 (zeros 32) 0 0 16, _, rfl, by decide, rfl, by decide, rfl⟩
  · exact ⟨prep 0 (zeros 32) 0 0 24, _, rfl, by decide, rfl, by decide, rfl⟩
  · exact ⟨prep 224 (zeros 32) 224 0 32, _, rfl, by decide, rfl, by decide, rfl⟩
theorem witness_ChainInitEffect : ∃ (s : State) (x : CipherCtx) (iv : List Byte), s.stfail = false ∧
    s.ctx[(0 : CtxIx).toNat]? = some x ∧ x.alg ≠ .none ∧ s.src.toNat + x.bs ≤ s.par.dmemSize ∧
    s.mem.readBytes s.src.toNat x.bs = some iv :=
  ⟨keyed (bfCtx .none .unset (zeros 8)), _, zeros 8, rfl, rfl, nofun, by decide, rfl⟩
/-- A Blowfish schedule without equal entries in a box. -/
def spread : BfSched := { BfSched.zero with S := Vector.replicate 4 (Vector.ofFn fun i : Fin 256 => BitVec.ofNat 32 i.val) }
theorem witness_BfWeakchkEffect : (keyed CipherCtx.reset).ctx[(0 : CtxIx).toNat]? = some CipherCtx.reset ∧
    CipherCtx.reset.alg = .none ∧ (tfCtx .none .unset).alg = .tf ∧ (bfCtx .none .unset (zeros 8)).alg = .bf ∧
    (keyed CipherCtx.reset).stfail = false := ⟨rfl, rfl, rfl, rfl, rfl⟩
theorem witness_BfWeakchkEffect_weak : ∃ (b : Fin 4) (i j : Fin 256), i ≠ j ∧ (BfSched.zero.S[b])[i] = (BfSched.zero.S[b])[j] :=
  ⟨0, 0, 1, by decide, by simp [BfSched.zero]⟩
theorem witness_BfWeakchkEffect_strong : ∀ (b : Fin 4) (i j : Fin 256), i ≠ j → (spread.S[b])[i] ≠ (spread.S[b])[j] := by
  intro b i j h e
  refine h (Fin.ext ?_)
  simp only [spread, Fin.getElem_fin, Vector.getElem_replicate, Vector.getElem_ofFn] at e
  have := congrArg BitVec.toNat e
  simp only [BitVec.toNat_ofNat] at this
  omega
theorem witness_DataReady {ch : Chain} {d : Dir} (h : ch ≠ .none ∨ d = .unset) :
    DataReady (keyed (bfCtx ch d (zeros 8))) 0 (bfCtx ch d (zeros 8)) (zeros 8) :=
  ⟨rfl, rfl, bfCtx_ok rfl h, nofun, nofun, (rfl : 8 % 8 = 0), Nat.le_of_ble_eq_true rfl, Nat.le_of_ble_eq_true rfl, rfl⟩
theorem witness_DataReady_tf : ∃ s, DataReady s 0 (tfCtx .cbc .unset) (zeros 32) :=
  ⟨{ prep 224 (zeros 32) 224 0 32 with ctx := [tfCtx .cbc .unset] },
   rfl, rfl, tfCtx_ok (.inl nofun), nofun, nofun, rfl, by decide, by decide, rfl⟩
theorem witness_EcbEffect : ∃ s c x p, DataReady s c x p := ⟨_, _, _, _, witness_DataReady (ch := .none) (.inr rfl)⟩
theorem witness_CbcEncEffect : ∀ d ∈ [Dir.unset, .enc], ∃ s c x p, DataReady s c x p ∧ x.chain = .cbc ∧ x.dir = d :=
  fun d _ => ⟨_, _, _, _, witness_DataReady (ch := .cbc) (d := d) (.inl nofun), rfl, rfl⟩
theorem witness_CbcDecEffect : ∀ d ∈ [Dir.unset, .dec], ∃ s c x p, DataReady s c x p ∧ x.chain = .cbc ∧ x.dir = d :=
  fun d _ => ⟨_, _, _, _, witness_DataReady (ch := .cbc) (d := d) (.inl nofun), rfl, rfl⟩
theorem witness_CfbEncEffect : ∀ d ∈ [Dir.unset, .enc], ∃ s c x p, DataReady s c x p ∧ x.chain = .cfb ∧ x.dir = d :=
  fun d _ => ⟨_, _, _, _, witness_DataReady (ch := .cfb) (d := d) (.inl nofun), rfl, rfl⟩
theorem witness_CfbDecEffect : ∀ d ∈ [Dir.unset, .dec], ∃ s c x p, DataReady s c x p ∧ x.chain = .cfb ∧ x.dir = d :=
  fun d _ => ⟨_, _, _, _, witness_DataReady (ch := .cfb) (d := d) (.inl nofun), rfl, rfl⟩
theorem witness_Sha256Effect : ∃ (s : State) (m : List Byte), s.stfail = false ∧ s.src.toNat + s.len.toNat ≤ s.par.dmemSize ∧
    s.dst.toNat + 32 ≤ s.par.dmemSize ∧ s.mem.readBytes s.src.toNat s.len.toNat = some m :=
  ⟨prep 255 [1] 255 224 1, _, rfl, by decide, by decide, rfl⟩
theorem witness_KdfEffect : (∃ (s : State) (p q : List Byte), s.stfail = false ∧ s.arg2.toNat = 2048 ∧
    s.src.toNat + s.len.toNat ≤ s.par.dmemSize ∧ s.arg0.toNat + s.arg1.toNat ≤ s.par.dmemSize ∧
    s.dst.toNat + 32 ≤ s.par.dmemSize ∧ s.mem.readBytes s.src.toNat s.len.toNat = some p ∧
    s.mem.readBytes s.arg0.toNat s.arg1.toNat = some q) ∧ ∃ s : State, s.stfail = false ∧ s.arg2.toNat = 2047 :=
  ⟨⟨prep 0 (upFrom 1 8) 0 224 3 3 5 2048, _, _, rfl, rfl, by decide, by decide, by decide, rfl, rfl⟩,
   prep 0 [] 0 0 0 0 0 2047, rfl, rfl⟩
theorem witness_HmacInitEffect : ∀ n ∈ [0, 64], ∃ (s : State) (seed : List Byte), s.stfail = false ∧
    (1 : CtxIx).toNat < s.nhctx ∧ s.len.toNat = n ∧ s.src.toNat + s.len.toNat ≤ s.par.dmemSize ∧
    s.mem.readBytes s.src.toNat s.len.toNat = some seed := by
  intro n hn
  fin_cases hn
  · exact ⟨prep 0 [] 256 0 0, _, rfl, by decide, rfl, by decide, rfl⟩
  · exact ⟨prep 192 (zeros 64) 192 0 64, _, rfl, by decide, rfl, by decide, rfl⟩
theorem witness_HmacUpdateEffect : ∀ y ∈ [accumCtx, doneCtx, HmacCtx.reset], ∃ (s : State) (d : List Byte), s.stfail = false ∧
    s.hctx[(0 : CtxIx).toNat]? = some y ∧ s.src.toNat + s.len.toNat ≤ s.par.dmemSize ∧
    s.mem.readBytes s.src.toNat s.len.toNat = some d :=
  fun y _ => ⟨{ prep 255 [1] 255 0 1 with hctx := [y] }, _, rfl, rfl, Nat.le_of_ble_eq_true rfl, rfl⟩
theorem witness_HmacDigestEffect : ∀ y ∈ [accumCtx, doneCtx, HmacCtx.reset], ∃ s : State, s.stfail = false ∧
    s.hctx[(0 : CtxIx).toNat]? = some y ∧ s.dst.toNat + 32 ≤ s.par.dmemSize :=
  fun y _ => ⟨{ prep 0 [] 0 224 0 with hctx := [y] }, rfl, rfl, Nat.le_of_ble_eq_true rfl⟩
theorem witness_phases : accumCtx.phase = .accum ∧ doneCtx.phase = .done ∧ HmacCtx.reset.phase = .idle := ⟨rfl, rfl, rfl⟩
theorem witness_BlkPadEffect : (∃ (s : State) (d : List Byte), CodecReady s false 0 ∧
      s.src.toNat + s.len.toNat ≤ s.par.dmemSize ∧ s.dst.toNat + (s.len.toNat + 16 - 1) / 16 * 16 ≤ s.par.dmemSize ∧
      s.mem.readBytes s.src.toNat s.len.toNat = some d) ∧
    ∃ (s : State) (d : List Byte), CodecReady s true 0 ∧ s.src.toNat + s.len.toNat ≤ s.par.dmemSize ∧
      s.dst.toNat + (s.len.toNat + 8 - 1) / 8 * 8 ≤ s.par.dmemSize ∧ s.mem.readBytes s.src.toNat s.len.toNat = some d :=
  ⟨⟨prep 239 (upFrom 1 17) 239 224 17, _, ⟨rfl, rfl⟩, by decide, by decide, rfl⟩,
   { prep 0 [] 0 256 0 with hctx := [accumCtx] }, _, ⟨rfl, accumCtx, rfl, rfl⟩, by decide, by decide, rfl⟩
theorem witness_FieldEncEffect : (∃ (s : State) (d : List Byte), CodecReady s false 0 ∧ s.arg0.toNat ≤ s.len.toNat ∧
      s.arg1.toNat = 254 ∧ s.src.toNat + s.arg0.toNat ≤ s.par.dmemSize ∧
      s.dst.toNat + fieldCount s.len.toNat .v3 * codecBs .v3 ≤ s.par.dmemSize ∧
      s.mem.readBytes s.src.toNat s.arg0.toNat = some d) ∧
    ∃ (s : State) (d : List Byte), CodecReady s true 0 ∧ s.arg0.toNat ≤ s.len.toNat ∧ s.arg1.toNat = 0 ∧
      s.src.toNat + s.arg0.toNat ≤ s.par.dmemSize ∧
      s.dst.toNat + fieldCount s.len.toNat .v12 * codecBs .v12 ≤ s.par.dmemSize ∧
      s.mem.readBytes s.src.toNat s.arg0.toNat = some d :=
  ⟨⟨prep 0 (upFrom 1 12) 0 224 12 12 254, _, ⟨rfl, rfl⟩, by decide, rfl, by decide, by decide, rfl⟩,
   { prep 0 [] 0 240 0 0 0 with hctx := [accumCtx] }, _, ⟨rfl, accumCtx, rfl, rfl⟩, by decide, rfl, by decide, by decide, rfl⟩
theorem witness_FieldDecEffect : (∃ (s : State) (w : List Byte), CodecReady s false 0 ∧
      s.src.toNat + s.len.toNat ≤ s.par.dmemSize ∧ s.mem.readBytes s.src.toNat s.len.toNat = some w ∧
      fieldCount (le32 (slice w 0 4)).toNat .v3 * codecBs .v3 ≤ s.len.toNat ∧
      s.dst.toNat + (le32 (slice w 0 4)).toNat ≤ s.par.dmemSize) ∧
    ∃ (s : State) (w : List Byte), CodecReady s true 0 ∧
      s.src.toNat + s.len.toNat ≤ s.par.dmemSize ∧ s.mem.readBytes s.src.toNat s.len.toNat = some w ∧
      fieldCount (le32 (slice w 0 4)).toNat .v12 * codecBs .v12 ≤ s.len.toNat ∧
      s.dst.toNat + (le32 (slice w 0 4)).toNat ≤ s.par.dmemSize :=
  ⟨⟨prep 240 ([11, 0, 0, 0, 6] ++ upFrom 1 11) 240 245 16, [11, 0, 0, 0, 6] ++ upFrom 1 11,
    ⟨rfl, rfl⟩, by decide, rfl, by decide, by decide⟩,
   { prep 240 ([0, 0, 0, 0, 0xFF] ++ zeros 11) 240 256 16 with hctx := [accumCtx] }, [0, 0, 0, 0, 0xFF] ++ zeros 11,
    ⟨rfl, accumCtx, rfl, rfl⟩, by decide, rfl, by decide, by decide⟩
/-- A wire cut inside its header, one byte less than a block, and one block of a field of two. -/
theorem witness_TruncationIsDetected : ∀ n ∈ [(3 : Word), 15, 16], ∃ (s : State) (w : List Byte), CodecReady s false 0 ∧
    s.src.toNat + s.len.toNat ≤ s.par.dmemSize ∧ s.mem.readBytes s.src.toNat s.len.toNat = some w ∧ s.len = n ∧
    s.len.toNat < fieldCount (le32 (slice w 0 4)).toNat .v3 * codecBs .v3 := by
  intro n hn
  refine ⟨prep 0 ([12, 0, 0, 0, 6] ++ upFrom 1 11) 0 0 n, ([12, 0, 0, 0, 6] ++ upFrom 1 11).take n.toNat, ⟨rfl, rfl⟩, ?_⟩
  fin_cases hn <;> decide
theorem witness_FieldCountEffect : fresh.stfail = false := rfl
theorem witness_FieldTermEffect : ∃ s : State, s.stfail = false ∧ s.dst.toNat + 16 = s.par.dmemSize :=
  ⟨prep 0 [] 0 240 0, rfl, rfl⟩
theorem witness_RngDrawEffect : ∃ s : State, s.stfail = false ∧ s.dst.toNat + s.len.toNat = s.par.dmemSize :=
  ⟨prep 0 [] 0 200 56, rfl, rfl⟩
theorem witness_RngBoundEffect : ∀ b ∈ [(1 : Word), 0x7FFFFFFF, 0, 0x80000000], ∃ s : State, s.stfail = false ∧ s.arg0 = b :=
  fun b _ => ⟨{ fresh with arg0 := b }, rfl, rfl⟩
theorem witness_RngSetupEffect : ∃ (s : State) (seed : List Byte), s.stfail = false ∧ s.len.toNat = 64 ∧
    s.src.toNat + s.len.toNat ≤ s.par.dmemSize ∧ s.mem.readBytes s.src.toNat s.len.toNat = some seed ∧ s.arg0 ≠ 0 :=
  ⟨prep 192 (zeros 64) 192 0 64 1, _, rfl, rfl, by decide, rfl, nofun⟩
theorem witness_GeneratorStream : (∃ g : Rng, g.Ok ∧ g.ridx = 63) ∧ (∃ g : Rng, g.Ok ∧ g.ridx = 64 ∧ g.rleft = 0) ∧
    ∃ g : Rng, g.Ok ∧ g.ridx = 64 ∧ g.rleft ≠ 0 :=
  ⟨⟨{ Rng.reset 1 0 with ridx := 63 }, by constructor <;> decide, rfl⟩, ⟨_, reset_rng_ok, rfl, rfl⟩,
   { Rng.reset 1 0 with rleft := 1 }, by constructor <;> decide, rfl, nofun⟩
theorem witness_PrimitivesInvert : (upFrom 1 8).length = 8 ∧ (upFrom 1 16).length = 16 := by decide
theorem witness_QPermutations : q0 0x0F = q0 0x0F ∧ q1 0xF0 = q1 0xF0 := ⟨rfl, rfl⟩
theorem witness_HashUpdateIsAssociative : { ShaStream.init with pend := zeros 63 }.pend.length < 64 := by decide
theorem witness_HmacStreaming : (upFrom 1 64).length ≤ 64 ∧ ([] : List Byte).length ≤ 64 := by decide
theorem witness_SplitChaining : 0 < CipherCtx.reset.bs ∧ (upFrom 1 16).length % CipherCtx.reset.bs = 0 := by decide
/-- Encrypting eight zero bytes in place and then, in a context as before, decrypting what stands there. -/
theorem witness_CipherRoundTrip : ∀ q ∈ [(Chain.none, Instr.ecbEnc 0, Instr.ecbDec 0), (.cbc, .cbcEnc 0, .cbcDec 0), (.cfb, .cfbEnc 0, .cfbDec 0)],
    ∃ (s1 t1 s2 t2 : State) (x : CipherCtx), s1.ctx[(0 : CtxIx).toNat]? = some x ∧ s2.ctx[(0 : CtxIx).toNat]? = some x ∧ x.Ok ∧
      exec q.2.1 s1 = .next t1 ∧ t1.errcode = .ok ∧ s2.len = s1.len ∧
      s2.mem.readBytes s2.src.toNat s2.len.toNat = t1.mem.readBytes s1.dst.toNat s1.len.toNat ∧
      exec q.2.2 s2 = .next t2 ∧ t2.errcode = .ok := by
  intro q hq
  fin_cases hq
  · exact ⟨keyed (bfCtx .none .unset (zeros 8)), _, { keyed (bfCtx .none .unset (zeros 8)) with mem := _ }, _, _, rfl, rfl,
      bfCtx_ok rfl (.inr rfl), rfl, rfl, rfl, rfl, rfl, rfl⟩
  · exact ⟨keyed (bfCtx .cbc .unset (zeros 8)), _, { keyed (bfCtx .cbc .unset (zeros 8)) with mem := _ }, _, _, rfl, rfl,
      bfCtx_ok rfl (.inl nofun), rfl, rfl, rfl, rfl, rfl, rfl⟩
  · exact ⟨keyed (bfCtx .cfb .unset (zeros 8)), _, { keyed (bfCtx .cfb .unset (zeros 8)) with mem := _ }, _, _, rfl, rfl,
      bfCtx_ok rfl (.inl nofun), rfl, rfl, rfl, rfl, rfl, rfl⟩
/-- Encoding three bytes as a field of five, and decoding the wire, with U = 1 on both sides. -/
theorem witness_FieldRoundTrip : ∀ v ∈ [Format.v12, .v3], ∃ (s1 t1 s2 t2 : State) (d : List Byte), s1.Ok ∧
    s1.mem.readBytes s1.src.toNat s1.arg0.toNat = some d ∧ exec (.fieldEnc v true 0) s1 = .next t1 ∧ t1.errcode = .ok ∧
    s2.len = t1.result0 ∧ s2.mem.readBytes s2.src.toNat s2.len.toNat = t1.mem.readBytes s1.dst.toNat t1.result0.toNat ∧
    exec (.fieldDec v true 0) s2 = .next t2 ∧ t2.errcode = .ok ∧
    s1.hctx[(0 : CtxIx).toNat]? = s2.hctx[(0 : CtxIx).toNat]? := by
  have hok : ({ prep 0 [1, 2, 3] 0 16 5 3 7 with hctx := [accumCtx] } : State).Ok := by
    obtain ⟨a, b, c, -, -, f, g, i, -, k⟩ := prep_ok 0 [1, 2, 3] 0 16 5 3 7 0 (by decide)
    refine ⟨a, b, c, by decide, by decide, f, g, i, fun y hy => ?_, k⟩
    rcases List.mem_singleton.1 hy with rfl
    exact ⟨rfl, rfl, rfl, nofun, nofun, fun _ => rfl⟩
  intro v hv
  fin_cases hv
  · exact ⟨_, _, { prep 0 [] 16 0 16 with hctx := [accumCtx], mem := _ }, _, _, hok, rfl, rfl, rfl, rfl, rfl, rfl, rfl, rfl⟩
  · exact ⟨_, _, { prep 0 [] 16 0 16 with hctx := [accumCtx], mem := _ }, _, _, hok, rfl, rfl, rfl, rfl, rfl, rfl, rfl, rfl⟩

end Sys2Proof.Tests
end

section
/-! # How a command ends

What every command can come to, said once: an error that changes STATUS alone, or a completion. `Completes` lists the
completions with the facts that the passed checks leave behind, and `exec_ends` ties the list to `exec`; the rules of
the whole machine are read off the list and do not open a command's meaning again. -/

namespace Sys2Proof.Machine

/-- The checks of R173 are passed: `x` is the keyed context and `p` the bytes of SRC. -/
structure DataPassed (s : State) (c : CtxIx) (mode : Chain) (d : Dir) (x : CipherCtx) (p : List Byte) : Prop where
  ctx : s.ctx[c.toNat]? = some x
  keyed : x.alg ≠ .none
  len_mult : s.len.toNat % x.bs = 0
  dst_in : s.inBounds s.dst s.len.toNat
  mode_eq : mode = .none ∨ x.chain = mode
  dir_eq : mode = .none ∨ x.dir = .unset ∨ x.dir = d
  bytes : s.mem.readBytes s.src.toNat s.len.toNat = some p

/-- The HMAC context that a codec command absorbs into: none with U = 0, an accumulating one with U = 1 (R225). -/
inductive Absorbs (s : State) (h : CtxIx) : Bool → Option HmacCtx → Prop where
  | off : Absorbs s h false none
  | on {y : HmacCtx} (hy : s.hctx[h.toNat]? = some y) (hp : y.phase = .accum) : Absorbs s h true (some y)

/-- `Completes s i u`: command `i` passes its checks in `s`, and `u` is the state it then ends in but for STATUS. -/
inductive Completes (s : State) : Instr → State → Prop where
  | nop : Completes s .nop s
  | bfKey {c k} (hk : s.mem.readBytes s.src.toNat s.len.toNat = some k) :
    Completes s (.bfKey c) (s.setCtx c (CipherCtx.keyedBf k))
  | tfKey {c m} (hl : s.len.toNat ∈ Config.tfKeyLens) (hm : s.mem.readBytes s.src.toNat s.len.toNat = some m) :
    Completes s (.tfKey c) (s.setCtx c (CipherCtx.keyedTf s.par.tf64 m))
  | cbcInit {c z x iv} (hx : s.ctx[c.toNat]? = some x) (hk : x.alg ≠ .none)
    (hiv : z = true ∧ iv = zeros x.bs ∨ z = false ∧ s.mem.readBytes s.src.toNat x.bs = some iv) :
    Completes s (.cbcInit c z) (s.setCtx c { x with V := iv, chain := .cbc, dir := .unset })
  | cfbInit {c z x iv} (hx : s.ctx[c.toNat]? = some x) (hk : x.alg ≠ .none)
    (hiv : z = true ∧ iv = zeros x.bs ∨ z = false ∧ s.mem.readBytes s.src.toNat x.bs = some iv) :
    Completes s (.cfbInit c z) (s.setCtx c { x with V := iv, chain := .cfb, dir := .unset })
  | ctxClear {c} : Completes s (.ctxClear c) (s.setCtx c CipherCtx.reset)
  | bfWeakchk {c} {x : CipherCtx} (hx : s.ctx[c.toNat]? = some x) (hk : x.alg = .bf) :
    Completes s (.bfWeakchk c) (s.setResult0 (if x.bf.Weak then 1 else 0))
  | ecbEnc {c x p} (hd : DataPassed s c .none .enc x p) :
    Completes s (.ecbEnc c) (s.write s.dst.toNat ((x.split p).map x.blockEnc).flatten)
  | ecbDec {c x p} (hd : DataPassed s c .none .dec x p) :
    Completes s (.ecbDec c) (s.write s.dst.toNat ((x.split p).map x.blockDec).flatten)
  | cbcEnc {c x p r} (hd : DataPassed s c .cbc .enc x p) (hr : r = cbcEncBlocks x.blockEnc x.V (x.split p)) :
    Completes s (.cbcEnc c) ((s.setCtx c { x with V := r.2, dir := .enc }).write s.dst.toNat r.1.flatten)
  | cbcDec {c x p r} (hd : DataPassed s c .cbc .dec x p) (hr : r = cbcDecBlocks x.blockDec x.V (x.split p)) :
    Completes s (.cbcDec c) ((s.setCtx c { x with V := r.2, dir := .dec }).write s.dst.toNat r.1.flatten)
  | cfbEnc {c x p r} (hd : DataPassed s c .cfb .enc x p) (hr : r = cfbEncBlocks x.blockEnc x.V (x.split p)) :
    Completes s (.cfbEnc c) ((s.setCtx c { x with V := r.2, dir := .enc }).write s.dst.toNat r.1.flatten)
  | cfbDec {c x p r} (hd : DataPassed s c .cfb .dec x p) (hr : r = cfbDecBlocks x.blockEnc x.V (x.split p)) :
    Completes s (.cfbDec c) ((s.setCtx c { x with V := r.2, dir := .dec }).write s.dst.toNat r.1.flatten)
  | sha256 {m} (ho : s.inBounds s.dst 32) : Completes s .sha256 (s.write s.dst.toNat (Machine.sha256 m))
  | kdf {pass salt} (ho : s.inBounds s.dst 32) :
    Completes s .kdf (s.write s.dst.toNat (stretchKey pass salt s.arg2.toNat))
  | hmacInit {h seed} (hl : s.len.toNat ≤ Config.hmacSeedMax)
    (hb : s.mem.readBytes s.src.toNat s.len.toNat = some seed) :
    Completes s (.hmacInit h) (s.setHctx h (HmacCtx.start seed))
  | hmacUpdate {h y d} (hy : s.hctx[h.toNat]? = some y) (hp : y.phase = .accum) :
    Completes s (.hmacUpdate h) (s.setHctx h (y.absorb d))
  | hmacDigest {h y} (hy : s.hctx[h.toNat]? = some y) (ho : s.inBounds s.dst 32) :
    Completes s (.hmacDigest h) ((s.setHctx h y.digested).write s.dst.toNat y.digested.memo)
  | hctxClear {h} : Completes s (.hctxClear h) (s.setHctx h HmacCtx.reset)
  | blkPad {v u h y d pad} (ha : Absorbs s h u y) (ho : s.inBounds s.dst (paddedLen s.len.toNat v))
    (hb : s.mem.readBytes s.src.toNat s.len.toNat = some d) (hpad : pad = paddedLen s.len.toNat v - s.len.toNat) :
    Completes s (.blkPad v u h) ((((hmacAbsorb h y d s).afterDraw pad).write s.dst.toNat (d ++ s.drawn pad)).setResult0
      (BitVec.ofNat 32 (paddedLen s.len.toNat v)))
  | fieldEnc {v u h y d D f} (ha : Absorbs s h u y) (hl : s.arg0.toNat ≤ s.len.toNat)
    (ho : s.inBounds s.dst (wireLen s.len.toNat v)) (hb : s.mem.readBytes s.src.toNat s.arg0.toNat = some d)
    (hD : D = d ++ zeros (s.len.toNat - s.arg0.toNat)) (hf : f = fillerLen s.len.toNat v) :
    Completes s (.fieldEnc v u h)
      (((((hmacAbsorb h y D s).afterDraw f).write s.dst.toNat (fieldWire v (s.arg1.setWidth 8) D (s.drawn f))).setResult0
        (BitVec.ofNat 32 (wireLen s.len.toNat v))).setResult1 (BitVec.ofNat 32 (fieldCount s.len.toNat v)))
  | fieldDec {v u h y w length D} (ha : Absorbs s h u y) (ho : s.inBounds s.dst length.toNat)
    (hb : s.mem.readBytes s.src.toNat s.len.toNat = some w) (hn : length = le32 (slice w 0 4))
    (hD : D = slice w (dataOffset v) length.toNat) :
    Completes s (.fieldDec v u h)
      (((((hmacAbsorb h y D s).write s.dst.toNat D).setResult0 ((w.getD 4 0).setWidth 32)).setResult1
        length).setResult2 (BitVec.ofNat 32 (wireLen length.toNat v)))
  | fieldCount {v} : Completes s (.fieldCount v) (s.setResult0 (BitVec.ofNat 32 (Machine.fieldCount s.arg0.toNat v)))
  | fieldTerm {v n} (hn : n = wireLen 0 v - 5) (ho : s.inBounds s.dst (wireLen 0 v)) :
    Completes s (.fieldTerm v) ((((s.afterDraw n).write s.dst.toNat
      ([0x00, 0x00, 0x00, 0x00, 0xFF] ++ s.drawn n)).setResult0 (BitVec.ofNat 32 (wireLen 0 v))).setResult1
        (BitVec.ofNat 32 (Machine.fieldCount 0 v)))
  | rngBytes (ho : s.inBounds s.dst s.len.toNat) :
    Completes s .rngBytes ((s.afterDraw s.len.toNat).write s.dst.toNat (s.drawn s.len.toNat))
  | rngByte : Completes s .rngByte ((s.afterDraw 1).setResult0 (((s.drawn 1).getD 0 0).setWidth 32))
  | rngInt : Completes s .rngInt ((s.afterDraw 4).setResult0 (le32 (s.drawn 4)))
  | rngLong : Completes s .rngLong
      (((s.afterDraw 8).setResult0 (le32 ((s.drawn 8).take 4))).setResult1 (le32 ((s.drawn 8).drop 4)))
  | rngBound : Completes s .rngBound ((s.afterDraw 4).setResult0 (boundedDraw (le32 (s.drawn 4)) s.arg0))
  | rngSeed {seed} (hl : s.len.toNat ≤ Config.rngSeedMax) (hb : s.mem.readBytes s.src.toNat s.len.toNat = some seed) :
    Completes s .rngSeed (s.setRng { s.rng with rseed := seed, rleft := 0 })
  | rngCycle (h0 : s.arg0 ≠ 0) : Completes s .rngCycle (s.setRng { s.rng with rcycle := s.arg0, rleft := 0 })

/-- The outcome `r` of command `i` in `s`, where it is a next state, is an error that changes STATUS alone or a
completion (R302). -/
def Ends (i : Instr) (s : State) (r : Res) : Prop :=
  ∀ t, r = .next t → (∃ e, e ≠ .ok ∧ t = s.errStatus e) ∨ ∃ u, Completes s i u ∧ t = u.okStatus

/-! ## One rule for each shared operation -/

section
variable {i : Instr} {s u : State} {k : Res}

theorem Ends.success (h : Completes s i u) : Ends i s (succeed u) := fun _ ht => .inr ⟨u, h, succeed_eq_next.1 ht⟩

theorem Ends.failure {e : ErrCode} (he : e ≠ .ok := by decide) : Ends i s (raise e s) :=
  fun _ ht => .inl ⟨e, he, raise_eq_next.1 ht⟩

theorem Ends.check {p : Prop} [Decidable p] {e : ErrCode} (h : ¬p → Ends i s k) (he : e ≠ .ok := by decide) :
    Ends i s (if p then raise e s else k) := by
  split
  · exact .failure he
  · exact h ‹_›

theorem Ends.unlocked (h : Ends i s k) : Ends i s (unlocked s k) := fun t ht => by
  rcases unlocked_eq_next.1 ht with ⟨-, rfl⟩ | ⟨-, ht⟩
  · exact .inl ⟨_, by decide, rfl⟩
  · exact h t ht

theorem Ends.withCtx {c : CtxIx} {k : CipherCtx → Res} (h : ∀ x, s.ctx[c.toNat]? = some x → Ends i s (k x)) :
    Ends i s (withCtx c s k) := fun t ht => by
  rcases withCtx_eq_next.1 ht with ⟨-, rfl⟩ | ⟨x, hx, ht⟩
  · exact .inl ⟨_, by decide, rfl⟩
  · exact h x hx t ht

theorem Ends.withHctx {c : CtxIx} {k : HmacCtx → Res} (h : ∀ y, s.hctx[c.toNat]? = some y → Ends i s (k y)) :
    Ends i s (withHctx c s k) := fun t ht => by
  rcases withHctx_eq_next.1 ht with ⟨-, rfl⟩ | ⟨y, hy, ht⟩
  · exact .inl ⟨_, by decide, rfl⟩
  · exact h y hy t ht

theorem Ends.withBytes {a n : Nat} {k : List Byte → Res} (h : ∀ b, s.mem.readBytes a n = some b → Ends i s (k b)) :
    Ends i s (withBytes s a n k) := fun t ht => by
  obtain ⟨b, hb, ht⟩ := withBytes_eq_next.1 ht
  exact h b hb t ht

theorem Ends.dataChecks {c : CtxIx} {mode : Chain} {d : Dir} {k : CipherCtx → List Byte → Res}
    (h : ∀ x p, DataPassed s c mode d x p → Ends i s (k x p)) : Ends i s (dataChecks c mode d s k) := fun t ht => by
  rcases dataChecks_eq_next ht with he | ⟨x, p, -, hx, hk, -, hl, -, ho, hm, hd, hp, ht⟩
  · exact .inl he
  · exact h x p ⟨hx, hk, hl, ho, hm, hd, hp⟩ t ht

theorem Ends.chainInit {c : CtxIx} {z : Bool} {mode : Chain}
    (h : ∀ x iv, s.ctx[c.toNat]? = some x → x.alg ≠ .none →
      (z = true ∧ iv = zeros x.bs ∨ z = false ∧ s.mem.readBytes s.src.toNat x.bs = some iv) →
        Completes s i (s.setCtx c { x with V := iv, chain := mode, dir := .unset })) :
    Ends i s (chainInit c z mode s) := fun t ht => by
  rcases chainInit_eq_next ht with he | ⟨x, iv, -, hx, hk, hiv, rfl⟩
  · exact .inl he
  · exact .inr ⟨_, h x iv hx hk hiv, rfl⟩

/-- After the common checks of a codec command and HmacCheck, the selected context absorbs (R225, R303). -/
theorem Ends.codecChecks {v : Bool} {h : CtxIx} {k : Option HmacCtx → Res}
    (hk : ∀ y, (hmacReady y = true → Absorbs s h v y) → Ends i s (k y)) : Ends i s (codecChecks v h s k) := fun t ht => by
  rcases codecChecks_eq_next ht with he | ⟨-, -, y, ⟨rfl, rfl⟩ | ⟨rfl, hs, hy⟩, ht⟩
  · exact .inl he
  · exact hk none (fun _ => .off) t ht
  · obtain ⟨y, rfl⟩ := Option.isSome_iff_exists.1 hs
    exact hk (some y) (fun hp => .on hy (by simpa [hmacReady] using hp)) t ht

end

/-! ## The commands -/

section
variable (s : State)

theorem execBfKey_ends (c : CtxIx) : Ends (.bfKey c) s (execBfKey c s) :=
  .unlocked <| .withCtx fun _ _ => .check fun _ => .check fun _ => .withBytes fun _ hk => .success (.bfKey hk)

theorem execTfKey_ends (c : CtxIx) : Ends (.tfKey c) s (execTfKey c s) :=
  .unlocked <| .withCtx fun _ _ => .check fun hl => .check fun _ => .withBytes fun _ hm =>
    .success (.tfKey (not_not.1 hl) hm)

theorem execBfWeakchk_ends (c : CtxIx) : Ends (.bfWeakchk c) s (execBfWeakchk c s) :=
  .unlocked <| .withCtx fun x hx => by
    cases hk : x.alg with
    | none => exact .failure
    | tf => exact .failure
    | bf => exact .success (.bfWeakchk hx hk)

theorem execSha256_ends : Ends .sha256 s (execSha256 s) :=
  .unlocked <| .check fun _ => .check fun ho => .withBytes fun _ _ => .success (.sha256 (not_not.1 ho))

theorem execKdf_ends : Ends .kdf s (execKdf s) :=
  .unlocked <| .check fun _ => .check fun _ => .check fun _ => .check fun ho => .withBytes fun _ _ =>
    .withBytes fun _ _ => .success (.kdf (not_not.1 ho))

theorem execHmacInit_ends (h : CtxIx) : Ends (.hmacInit h) s (execHmacInit h s) :=
  .unlocked <| .withHctx fun _ _ => .check fun hl => .check fun _ => .withBytes fun _ hb =>
    .success (.hmacInit (not_lt.1 hl) hb)

theorem execHmacUpdate_ends (h : CtxIx) : Ends (.hmacUpdate h) s (execHmacUpdate h s) :=
  .unlocked <| .withHctx fun _ hy => .check fun _ => .check fun hp => .withBytes fun _ _ =>
    .success (.hmacUpdate hy (not_not.1 hp))

theorem execHmacDigest_ends (h : CtxIx) : Ends (.hmacDigest h) s (execHmacDigest h s) :=
  .unlocked <| .withHctx fun _ hy => .check fun ho => .check fun _ => .success (.hmacDigest hy (not_not.1 ho))

theorem execBlkPad_ends (v : Format) (u : Bool) (h : CtxIx) : Ends (.blkPad v u h) s (execBlkPad v u h s) :=
  .codecChecks fun _ ha => .check fun _ => .check fun ho => .check fun hr => .withBytes fun _ hb =>
    .success (.blkPad (ha (by simpa using hr)) (not_not.1 ho) hb rfl)

theorem execFieldEnc_ends (v : Format) (u : Bool) (h : CtxIx) : Ends (.fieldEnc v u h) s (execFieldEnc v u h s) :=
  .codecChecks fun _ ha => .check fun hl => .check fun _ => .check fun _ => .check fun _ => .check fun ho =>
    .check fun hr => .withBytes fun _ hb =>
      .success (.fieldEnc (ha (by simpa using hr)) (not_lt.1 hl) (not_not.1 ho) hb rfl rfl)

theorem execFieldDec_ends (v : Format) (u : Bool) (h : CtxIx) : Ends (.fieldDec v u h) s (execFieldDec v u h s) :=
  .codecChecks fun _ ha => .check fun _ => .check fun hr => .check fun _ => .withBytes fun _ hb => .check fun _ =>
    .check fun ho => .success (.fieldDec (ha (by simpa using hr)) (not_not.1 ho) hb rfl rfl)

theorem execFieldTerm_ends (v : Format) : Ends (.fieldTerm v) s (execFieldTerm v s) :=
  .unlocked <| .check fun ho => .success (.fieldTerm rfl (not_not.1 ho))

theorem execRngBytes_ends : Ends .rngBytes s (execRngBytes s) :=
  .unlocked <| .check fun ho => .success (.rngBytes (not_not.1 ho))

theorem execRngSeed_ends : Ends .rngSeed s (execRngSeed s) :=
  .unlocked <| .check fun hl => .check fun _ => .withBytes fun _ hb => .success (.rngSeed (not_lt.1 hl) hb)

/-- Every command ends in an error that changes STATUS alone, or completes (R302). -/
theorem exec_ends (i : Instr) : Ends i s (exec i s) := by
  cases i with
  | nop => exact .success .nop
  | bfKey c => exact execBfKey_ends s c
  | tfKey c => exact execTfKey_ends s c
  | cbcInit c z => exact .chainInit fun _ _ hx hk hiv => .cbcInit hx hk hiv
  | ctxClear c => exact .withCtx fun _ _ => .success .ctxClear
  | bfWeakchk c => exact execBfWeakchk_ends s c
  | cfbInit c z => exact .chainInit fun _ _ hx hk hiv => .cfbInit hx hk hiv
  | ecbEnc c => exact .dataChecks fun _ _ hd => .success (.ecbEnc hd)
  | ecbDec c => exact .dataChecks fun _ _ hd => .success (.ecbDec hd)
  | cbcEnc c => exact .dataChecks fun _ _ hd => .success (.cbcEnc hd rfl)
  | cbcDec c => exact .dataChecks fun _ _ hd => .success (.cbcDec hd rfl)
  | cfbEnc c => exact .dataChecks fun _ _ hd => .success (.cfbEnc hd rfl)
  | cfbDec c => exact .dataChecks fun _ _ hd => .success (.cfbDec hd rfl)
  | sha256 => exact execSha256_ends s
  | kdf => exact execKdf_ends s
  | hmacInit h => exact execHmacInit_ends s h
  | hmacUpdate h => exact execHmacUpdate_ends s h
  | hmacDigest h => exact execHmacDigest_ends s h
  | hctxClear h => exact .withHctx fun _ _ => .success .hctxClear
  | blkPad v u h => exact execBlkPad_ends s v u h
  | fieldEnc v u h => exact execFieldEnc_ends s v u h
  | fieldDec v u h => exact execFieldDec_ends s v u h
  | fieldCount v => exact .unlocked (.success .fieldCount)
  | fieldTerm v => exact execFieldTerm_ends s v
  | rngBytes => exact execRngBytes_ends s
  | rngByte => exact .unlocked (.success .rngByte)
  | rngInt => exact .unlocked (.success .rngInt)
  | rngLong => exact .unlocked (.success .rngLong)
  | rngBound => exact .unlocked (.check fun _ => .success .rngBound)
  | rngSeed => exact execRngSeed_ends s
  | rngCycle => exact .unlocked (.check fun h0 => .success (.rngCycle h0))

end

end Sys2Proof.Machine
end

section
/-! # What a command leaves unchanged

Read off the list of completions: the registers that no command writes (R21, R23, R301), the contexts and the generator
that a command does not use (R31, R36, R272), the RESULT registers that its rule does not name (R25), and the direction
lock (R34). -/

namespace Sys2Proof.Machine

/-! ## Absorbing changes one list of contexts -/

section
variable (h : CtxIx) (y : Option HmacCtx) (d : List Byte) (s : State)
@[simp] theorem hmacAbsorb_par : (hmacAbsorb h y d s).par = s.par := by cases y <;> rfl
@[simp] theorem hmacAbsorb_ctx : (hmacAbsorb h y d s).ctx = s.ctx := by cases y <;> rfl
@[simp] theorem hmacAbsorb_rng : (hmacAbsorb h y d s).rng = s.rng := by cases y <;> rfl
@[simp] theorem hmacAbsorb_result1 : (hmacAbsorb h y d s).result1 = s.result1 := by cases y <;> rfl
@[simp] theorem hmacAbsorb_result2 : (hmacAbsorb h y d s).result2 = s.result2 := by cases y <;> rfl
end

variable {i : Instr} {s t u : State}

/-! ## Completions -/

/-- A completion keeps CMD, the operand registers, STFAIL, the parameters and the host's side. -/
theorem Completes.operands_kept (h : Completes s i u) :
    u.cmd = s.cmd ∧ u.src = s.src ∧ u.dst = s.dst ∧ u.len = s.len ∧ u.arg0 = s.arg0 ∧ u.arg1 = s.arg1 ∧
    u.arg2 = s.arg2 ∧ u.stfail = s.stfail ∧ u.par = s.par ∧ u.port = s.port ∧ u.rdata = s.rdata := by
  cases h with
  | blkPad ha | fieldEnc ha | fieldDec ha => cases ha <;> simp [hmacAbsorb_some]
  | _ => simp

/-- A completion replaces at most the cipher context that its command names. -/
theorem Completes.ctx_eq_or_set (h : Completes s i u) :
    u.ctx = s.ctx ∨ ∃ c x, Instr.cipherIx i = some c ∧ u.ctx = s.ctx.set c.toNat x := by
  cases h with
  | bfKey | tfKey | cbcInit | cfbInit | ctxClear | cbcEnc | cbcDec | cfbEnc | cfbDec => exact .inr ⟨_, _, rfl, rfl⟩
  | _ => exact .inl (by simp)

/-- A completion replaces at most the HMAC context that its command uses. -/
theorem Completes.hctx_eq_or_set (h : Completes s i u) :
    u.hctx = s.hctx ∨ ∃ k y, Instr.hmacIx i = some k ∧ u.hctx = s.hctx.set k.toNat y := by
  cases h with
  | hmacInit | hmacUpdate | hmacDigest | hctxClear => exact .inr ⟨_, _, rfl, rfl⟩
  | blkPad ha | fieldEnc ha | fieldDec ha =>
    cases ha with
    | off => exact .inl (by simp)
    | on => exact .inr (by simp [hmacAbsorb_some, Instr.hmacIx])
  | _ => exact .inl (by simp)

/-- A completion changes the generator only if its command draws from it or sets it up. -/
theorem Completes.rng_eq (h : Completes s i u) (hi : Instr.touchesRng i = false) : u.rng = s.rng := by
  cases h with
  | blkPad | fieldEnc | fieldTerm | rngBytes | rngByte | rngInt | rngLong | rngBound | rngSeed | rngCycle => cases hi
  | _ => simp

theorem Completes.result0_changed (h : Completes s i u) (hr : u.result0 ≠ s.result0) :
    (∃ c, i = .bfWeakchk c) ∨ (∃ v u h, i = .blkPad v u h) ∨ (∃ v u h, i = .fieldEnc v u h) ∨
      (∃ v u h, i = .fieldDec v u h) ∨ (∃ v, i = .fieldCount v) ∨ (∃ v, i = .fieldTerm v) ∨
      i = .rngByte ∨ i = .rngInt ∨ i = .rngLong ∨ i = .rngBound := by
  cases h with
  | bfWeakchk | blkPad | fieldEnc | fieldDec | fieldCount | fieldTerm | rngByte | rngInt | rngLong | rngBound => simp
  | _ => exact absurd (by simp) hr

theorem Completes.result1_changed (h : Completes s i u) (hr : u.result1 ≠ s.result1) :
    (∃ v u h, i = .fieldEnc v u h) ∨ (∃ v u h, i = .fieldDec v u h) ∨ (∃ v, i = .fieldTerm v) ∨ i = .rngLong := by
  cases h with
  | fieldEnc | fieldDec | fieldTerm | rngLong => simp
  | _ => exact absurd (by simp) hr

theorem Completes.result2_changed (h : Completes s i u) (hr : u.result2 ≠ s.result2) : ∃ v u h, i = .fieldDec v u h := by
  cases h with
  | fieldDec => exact ⟨_, _, _, rfl⟩
  | _ => exact absurd (by simp) hr

/-- Where an entry of a list changes under `set`, it is the entry that was set. -/
theorem eq_of_getElem?_set {α : Type} {l : List α} {n j : Nat} {x y z : α} (hx : l[j]? = some x)
    (hy : (l.set n z)[j]? = some y) (hne : x ≠ y) : n = j ∧ y = z := by
  by_cases hj : n = j
  · subst hj
    obtain ⟨hl, -⟩ := List.getElem?_eq_some_iff.1 hx
    rw [List.getElem?_set_self hl] at hy
    exact ⟨rfl, (Option.some.inj hy).symm⟩
  · rw [List.getElem?_set_ne hj, hx] at hy
    exact absurd (Option.some.inj hy) hne

/-- A chained data command of direction `d` that changes the direction of its context finds it UNSET (R181). -/
theorem DataPassed.dir_unset {c : CtxIx} {mode : Chain} {d : Dir} {x y : CipherCtx} {p : List Byte}
    (h : DataPassed s c mode d y p) (hm : mode ≠ .none) (hx : s.ctx[c.toNat]? = some x) (hne : x.dir ≠ d) :
    x.dir = .unset := by
  obtain rfl : x = y := Option.some.inj (hx.symm.trans h.ctx)
  exact (h.dir_eq.resolve_left hm).resolve_right hne

/-- R34: the completions that change the direction of a context. -/
theorem Completes.dir_changed {j : Nat} {x y : CipherCtx} (h : Completes s i u) (hx : s.ctx[j]? = some x)
    (hy : u.ctx[j]? = some y) (hne : x.dir ≠ y.dir) :
    ∃ c : CtxIx, c.toNat = j ∧
      ((x.dir = .unset ∧ (i = .cbcEnc c ∨ i = .cfbEnc c) ∧ y.dir = .enc) ∨
       (x.dir = .unset ∧ (i = .cbcDec c ∨ i = .cfbDec c) ∧ y.dir = .dec) ∨
       (y.dir = .unset ∧ (i = .bfKey c ∨ i = .tfKey c ∨ (∃ z, i = .cbcInit c z) ∨ (∃ z, i = .cfbInit c z) ∨
         i = .ctxClear c))) := by
  have hxy : x ≠ y := fun he => hne (he ▸ rfl)
  cases h with
  | bfKey | tfKey | cbcInit | cfbInit | ctxClear =>
    obtain ⟨hj, rfl⟩ := eq_of_getElem?_set hx hy hxy
    exact ⟨_, hj, .inr (.inr ⟨rfl, by simp⟩)⟩
  | cbcEnc hd | cfbEnc hd =>
    obtain ⟨rfl, rfl⟩ := eq_of_getElem?_set hx hy hxy
    exact ⟨_, rfl, .inl ⟨hd.dir_unset nofun hx hne, by simp, rfl⟩⟩
  | cbcDec hd | cfbDec hd =>
    obtain ⟨rfl, rfl⟩ := eq_of_getElem?_set hx hy hxy
    exact ⟨_, rfl, .inr (.inl ⟨hd.dir_unset nofun hx hne, by simp, rfl⟩)⟩
  | _ => exact absurd (Option.some.inj (hx.symm.trans (by simpa using hy))) hxy

/-! ## Commands -/

theorem exec_ctx_eq_or_set (h : exec i s = .next t) :
    t.ctx = s.ctx ∨ ∃ c x, Instr.cipherIx i = some c ∧ t.ctx = s.ctx.set c.toNat x := by
  rcases exec_ends s i t h with ⟨e, -, rfl⟩ | ⟨u, hu, rfl⟩
  · exact .inl rfl
  · exact hu.ctx_eq_or_set

theorem exec_hctx_eq_or_set (h : exec i s = .next t) :
    t.hctx = s.hctx ∨ ∃ k y, Instr.hmacIx i = some k ∧ t.hctx = s.hctx.set k.toNat y := by
  rcases exec_ends s i t h with ⟨e, -, rfl⟩ | ⟨u, hu, rfl⟩
  · exact .inl rfl
  · exact hu.hctx_eq_or_set

theorem exec_rng_eq (h : exec i s = .next t) (hi : Instr.touchesRng i = false) : t.rng = s.rng := by
  rcases exec_ends s i t h with ⟨e, -, rfl⟩ | ⟨u, hu, rfl⟩
  · rfl
  · exact hu.rng_eq hi

/-- A list that differs at most in the entry of an index `o` has its length, and its other entries. -/
theorem getElem?_eq_of_eq_or_set {α : Type} {l l' : List α} {o : Option CtxIx}
    (h : l' = l ∨ ∃ c x, o = some c ∧ l' = l.set c.toNat x) :
    l'.length = l.length ∧ ∀ j, (∀ c, o = some c → c.toNat ≠ j) → l'[j]? = l[j]? := by
  rcases h with rfl | ⟨c, x, rfl, rfl⟩
  · exact ⟨rfl, fun _ _ => rfl⟩
  · exact ⟨List.length_set, fun j hj => List.getElem?_set_ne (hj c rfl)⟩

/-- Settles O23: an error changes STATUS alone, and a completion keeps the operands. -/
theorem commandsKeepOperands : Obligations.CommandsKeepOperands := by
  intro i s t h
  rcases exec_ends s i t h with ⟨e, -, rfl⟩ | ⟨u, hu, rfl⟩
  · simp
  · exact hu.operands_kept

/-- Settles O25: at most the named entry of each list of contexts is replaced. -/
theorem contextIsolation : Obligations.ContextIsolation := by
  intro i s t h
  obtain ⟨hlen, hget⟩ := getElem?_eq_of_eq_or_set (exec_ctx_eq_or_set h)
  obtain ⟨hlen', hget'⟩ := getElem?_eq_of_eq_or_set (exec_hctx_eq_or_set h)
  exact ⟨hlen, hlen', hget, hget', exec_rng_eq h⟩

/-- Settles O26: an error changes no RESULT register, and a completion those that its rule names. -/
theorem resultRegistersKept : Obligations.ResultRegistersKept := by
  intro i s t h
  rcases exec_ends s i t h with ⟨e, -, rfl⟩ | ⟨u, hu, rfl⟩
  · exact ⟨absurd rfl, absurd rfl, absurd rfl⟩
  · exact ⟨fun hr => ⟨rfl, hu.result0_changed hr⟩, fun hr => ⟨rfl, hu.result1_changed hr⟩,
      fun hr => ⟨rfl, hu.result2_changed hr⟩⟩

/-- Settles O27: an error changes no context, and a completion the direction as R34 says. -/
theorem directionChanges : Obligations.DirectionChanges := by
  intro i s t j x y h hx hy hne
  rcases exec_ends s i t h with ⟨e, -, rfl⟩ | ⟨u, hu, rfl⟩
  · exact absurd (congrArg CipherCtx.dir (Option.some.inj (hx.symm.trans hy))) hne
  · exact ⟨rfl, hu.dir_changed hx hy hne⟩

end Sys2Proof.Machine
end

section
/-! # Sizes

The byte counts that the invariant needs: a chained pass gives whole blocks and a whole vector, and what a command
writes is as long as the region whose bounds it checked. -/

namespace Sys2Proof.Machine

/-! ## Blocks -/

theorem length_flatten_of_forall {n : Nat} {bs : List (List Byte)} (h : ∀ b ∈ bs, b.length = n) :
    bs.flatten.length = bs.length * n := by
  rw [List.length_flatten, List.map_eq_replicate_iff.2 h, List.sum_replicate_nat]

/-- The output of a pass over `k` blocks of `n` bytes is `k` such blocks, with a vector of `n` bytes. -/
structure WholePass (n k : Nat) (r : List (List Byte) × List Byte) : Prop where
  count : r.1.length = k
  block : ∀ b ∈ r.1, b.length = n
  vector : r.2.length = n

theorem WholePass.nil {n : Nat} {v : List Byte} (hv : v.length = n) : WholePass n 0 ([], v) := ⟨rfl, nofun, hv⟩

theorem WholePass.cons {n k : Nat} {r : List (List Byte) × List Byte} {b : List Byte} (hb : b.length = n)
    (h : WholePass n k r) : WholePass n (k + 1) (b :: r.1, r.2) :=
  ⟨by simp [h.count], List.forall_mem_cons.2 ⟨hb, h.block⟩, h.vector⟩

section
variable {n : Nat} {F : List Byte → List Byte} (hF : ∀ b, (F b).length = n) {v : List Byte} (hv : v.length = n)
include hF hv

theorem cbcEncBlocks_whole (ps : List (List Byte)) : WholePass n ps.length (cbcEncBlocks F v ps) := by
  induction ps generalizing v with
  | nil => exact .nil hv
  | cons p ps ih => exact .cons (hF _) (ih (hF _))

theorem cbcDecBlocks_whole {cs : List (List Byte)} (hcs : ∀ c ∈ cs, c.length = n) :
    WholePass n cs.length (cbcDecBlocks F v cs) := by
  induction cs generalizing v with
  | nil => exact .nil hv
  | cons c cs ih =>
    obtain ⟨hc, hcs⟩ := List.forall_mem_cons.1 hcs
    exact .cons (by simp [hF, hv]) (ih hc hcs)

theorem cfbEncBlocks_whole {ps : List (List Byte)} (hps : ∀ p ∈ ps, p.length = n) :
    WholePass n ps.length (cfbEncBlocks F v ps) := by
  induction ps generalizing v with
  | nil => exact .nil hv
  | cons p ps ih =>
    obtain ⟨hp, hps⟩ := List.forall_mem_cons.1 hps
    have hc : (xorBytes p (F v)).length = n := by simp [hF, hp]
    exact .cons hc (ih hc hps)

theorem cfbDecBlocks_whole {cs : List (List Byte)} (hcs : ∀ c ∈ cs, c.length = n) :
    WholePass n cs.length (cfbDecBlocks F v cs) := by
  induction cs generalizing v with
  | nil => exact .nil hv
  | cons c cs ih =>
    obtain ⟨hc, hcs⟩ := List.forall_mem_cons.1 hcs
    exact .cons (by simp [hF, hc]) (ih hc hcs)

end

@[simp] theorem CipherCtx.split_length (x : CipherCtx) (p : List Byte) : (x.split p).length = p.length / x.bs :=
  blocks_length _ _ _

theorem CipherCtx.length_of_mem_split {x : CipherCtx} {p b : List Byte} (hb : b ∈ x.split p) : b.length = x.bs :=
  length_of_mem_blocks (Nat.div_mul_le_self _ _) hb

/-! ## What is written -/

theorem le_paddedLen (n : Nat) (v : Format) : n ≤ paddedLen n v := by
  cases v
  · simp only [paddedLen, ceilDiv, codecBs]
    omega
  · simp only [paddedLen, ceilDiv, codecBs]
    omega

theorem sha256Iter_length {x : List Byte} (hx : x.length = 32) (n : Nat) : (sha256Iter n x).length = 32 := by
  induction n generalizing x with
  | zero => exact hx
  | succ n ih => exact ih (sha256_length x)

@[simp] theorem stretchKey_length (pass salt : List Byte) (n : Nat) : (stretchKey pass salt n).length = 32 :=
  sha256Iter_length (sha256_length _) n

theorem slice_length_le (b : List Byte) (i n : Nat) : (slice b i n).length ≤ n := List.length_take_le _ _

end Sys2Proof.Machine
end

section
/-! # The invariant

The values that commands put into a context and into the generator are in order, every completion keeps `State.Ok`, and
with the host's own accesses and reset every step does. -/

namespace Sys2Proof.Machine

/-! ## Contexts and generator -/

theorem CipherCtx.ok_reset : CipherCtx.reset.Ok := ⟨rfl, rfl, fun _ => rfl, fun _ => rfl, nofun, nofun, nofun, rfl⟩

theorem CipherCtx.ok_keyedBf (k : List Byte) : (CipherCtx.keyedBf k).Ok :=
  ⟨rfl, rfl, fun _ => rfl, nofun, fun _ => rfl, nofun, nofun, rfl⟩

/-- A padded key of an admitted length has one to four 64-bit key words (R143, R149). -/
theorem tfPadKey_words {m : List Byte} (hm : m.length ∈ Config.tfKeyLens) (rule : Tf64Rule) :
    1 ≤ (tfPadKey rule m).length / 8 ∧ (tfPadKey rule m).length / 8 ≤ 4 := by
  have h : m.length = 8 ∨ m.length = 16 ∨ m.length = 24 ∨ m.length = 32 := by simpa [Config.tfKeyLens] using hm
  unfold tfPadKey
  split
  · simp only [List.length_append, zeros_length]
    omega
  · omega

theorem CipherCtx.ok_keyedTf {m : List Byte} (hm : m.length ∈ Config.tfKeyLens) (rule : Tf64Rule) :
    (CipherCtx.keyedTf rule m).Ok :=
  ⟨rfl, rfl, fun _ => rfl, nofun, nofun, fun _ => rfl, fun _ => tfPadKey_words hm rule,
    by simp [CipherCtx.keyedTf, tfKeySchedule]⟩

theorem HmacCtx.ok_reset : HmacCtx.reset.Ok := ⟨rfl, rfl, rfl, fun _ => rfl, nofun, nofun⟩

theorem hmacK0_length {seed : List Byte} (h : seed.length ≤ Config.hmacSeedMax) : (hmacK0 seed).length = 64 := by
  simp only [hmacK0, List.length_append, zeros_length, Config.hmacSeedMax] at *
  omega

/-- HMAC_INIT leaves one whole block absorbed, so nothing pending (R220). -/
theorem HmacCtx.ok_start {seed : List Byte} (h : seed.length ≤ Config.hmacSeedMax) : (HmacCtx.start seed).Ok where
  pend_eq := by simp [HmacCtx.start, ShaStream.init]
  okey_length := by simp [HmacCtx.start, hmacOuterPad, hmacK0_length h]
  memo_length := rfl
  idle_is_reset := nofun
  done_no_inner := nofun
  accum_no_memo _ := rfl

theorem Rng.ok_reset {cycle : Word} (h : cycle ≠ 0) (ent : Nat) : (Rng.reset cycle ent).Ok :=
  ⟨rfl, Nat.le_refl _, rfl, h, Nat.zero_le _, Nat.zero_le _⟩

/-! ## Completions -/

section
variable {s u : State} {c : CtxIx} {mode : Chain} {d : Dir} {x : CipherCtx} {p : List Byte}

theorem State.ok_hmacAbsorb (hs : s.Ok) {v : Bool} {h : CtxIx} {y : Option HmacCtx} (ha : Absorbs s h v y)
    (d : List Byte) : (hmacAbsorb h y d s).Ok := by
  cases ha with
  | off => exact hs
  | on hy hp => exact State.ok_setHctx hs (HmacCtx.ok_absorb (State.hctx_ok_of_getElem? hs hy) hp d)

/-- Whole blocks, as many as SRC holds, fill the region at DST that the data checks admitted (R173). -/
theorem DataPassed.flatten_fits (hd : DataPassed s c mode d x p) {bs : List (List Byte)}
    (hn : bs.length = (x.split p).length) (hb : ∀ b ∈ bs, b.length = x.bs) :
    s.dst.toNat + bs.flatten.length ≤ s.par.dmemSize := by
  have hlen : bs.flatten.length = s.len.toNat := by
    rw [length_flatten_of_forall hb, hn, CipherCtx.split_length, Memory.readBytes_length hd.bytes]
    exact Nat.div_mul_cancel (Nat.dvd_of_mod_eq_zero hd.len_mult)
  exact hlen ▸ hd.dst_in

theorem DataPassed.ctx_ok (hd : DataPassed s c mode d x p) (hs : s.Ok) : x.Ok := State.ctx_ok_of_getElem? hs hd.ctx

theorem DataPassed.blockEnc_length (hd : DataPassed s c mode d x p) (hs : s.Ok) (b : List Byte) :
    (x.blockEnc b).length = x.bs := CipherCtx.blockEnc_length (hd.ctx_ok hs) hd.keyed b

theorem DataPassed.blockDec_length (hd : DataPassed s c mode d x p) (hs : s.Ok) (b : List Byte) :
    (x.blockDec b).length = x.bs := CipherCtx.blockDec_length (hd.ctx_ok hs) hd.keyed b

/-- R174, R175: ciphering the blocks one by one keeps the invariant. -/
theorem DataPassed.ok_ecb (hd : DataPassed s c mode d x p) (hs : s.Ok) {F : List Byte → List Byte}
    (hF : ∀ b, (F b).length = x.bs) : (s.write s.dst.toNat ((x.split p).map F).flatten).Ok :=
  State.ok_write hs (hd.flatten_fits (List.length_map _) (List.forall_mem_map.2 fun b _ => hF b))

/-- R176 to R179: a whole chained pass keeps the invariant. -/
theorem DataPassed.ok_chained (hd : DataPassed s c mode d x p) (hs : s.Ok) (hm : mode ≠ .none)
    {r : List (List Byte) × List Byte} (hr : WholePass x.bs (x.split p).length r) :
    ((s.setCtx c { x with V := r.2, dir := d }).write s.dst.toNat r.1.flatten).Ok := by
  have hch : x.chain ≠ .none := (hd.mode_eq.resolve_left hm).symm ▸ hm
  exact State.ok_write (State.ok_setCtx hs (CipherCtx.ok_with_vector (hd.ctx_ok hs) hd.keyed hr.vector (.inl hch)))
    (hd.flatten_fits hr.count hr.block)

/-- R170, R171: a new mode with a vector of one block keeps the invariant. -/
theorem State.ok_chainInit (hs : s.Ok) {z : Bool} {iv : List Byte} (hx : s.ctx[c.toNat]? = some x) (hk : x.alg ≠ .none)
    (hm : mode ≠ .none) (hiv : z = true ∧ iv = zeros x.bs ∨ z = false ∧ s.mem.readBytes s.src.toNat x.bs = some iv) :
    (s.setCtx c { x with V := iv, chain := mode, dir := .unset }).Ok := by
  have hlen : iv.length = x.bs := by
    rcases hiv with ⟨-, rfl⟩ | ⟨-, hiv⟩
    · exact zeros_length _
    · exact Memory.readBytes_length hiv
  exact State.ok_setCtx hs (CipherCtx.ok_with_vector (State.ctx_ok_of_getElem? hs hx) hk hlen (.inl hm))

/-- Every completion keeps the invariant. -/
theorem Completes.ok {i : Instr} (h : Completes s i u) (hs : s.Ok) : u.Ok := by
  cases h with
  | nop => exact hs
  | bfKey => exact State.ok_setCtx hs (CipherCtx.ok_keyedBf _)
  | tfKey hl hm => exact State.ok_setCtx hs (CipherCtx.ok_keyedTf (Memory.readBytes_length hm ▸ hl) _)
  | cbcInit hx hk hiv | cfbInit hx hk hiv => exact State.ok_chainInit hs hx hk nofun hiv
  | ctxClear => exact State.ok_setCtx hs CipherCtx.ok_reset
  | bfWeakchk => exact State.ok_setResult0 hs _
  | ecbEnc hd => exact hd.ok_ecb hs (hd.blockEnc_length hs)
  | ecbDec hd => exact hd.ok_ecb hs (hd.blockDec_length hs)
  | cbcEnc hd hr =>
    exact hd.ok_chained hs nofun (hr ▸ cbcEncBlocks_whole (hd.blockEnc_length hs) (hd.ctx_ok hs).vector_length _)
  | cbcDec hd hr =>
    exact hd.ok_chained hs nofun (hr ▸ cbcDecBlocks_whole (hd.blockDec_length hs) (hd.ctx_ok hs).vector_length
      fun _ => CipherCtx.length_of_mem_split)
  | cfbEnc hd hr =>
    exact hd.ok_chained hs nofun (hr ▸ cfbEncBlocks_whole (hd.blockEnc_length hs) (hd.ctx_ok hs).vector_length
      fun _ => CipherCtx.length_of_mem_split)
  | cfbDec hd hr =>
    exact hd.ok_chained hs nofun (hr ▸ cfbDecBlocks_whole (hd.blockEnc_length hs) (hd.ctx_ok hs).vector_length
      fun _ => CipherCtx.length_of_mem_split)
  | sha256 ho | kdf ho => exact State.ok_write hs (by simpa using ho)
  | hmacInit hl hb => exact State.ok_setHctx hs (HmacCtx.ok_start (Memory.readBytes_length hb ▸ hl))
  | hmacUpdate hy hp => exact State.ok_setHctx hs (HmacCtx.ok_absorb (State.hctx_ok_of_getElem? hs hy) hp _)
  | hmacDigest hy ho =>
    have hok := HmacCtx.ok_digested (State.hctx_ok_of_getElem? hs hy)
    exact State.ok_write (State.ok_setHctx hs hok) (by simpa [hok.memo_length] using ho)
  | hctxClear => exact State.ok_setHctx hs HmacCtx.ok_reset
  | @blkPad v _ _ _ _ pad ha ho hb hpad =>
    have hle := le_paddedLen s.len.toNat v
    refine State.ok_setResult0 (State.ok_write (State.ok_afterDraw (State.ok_hmacAbsorb hs ha _) _) ?_) _
    simp only [State.afterDraw_par, hmacAbsorb_par, List.length_append, Memory.readBytes_length hb, State.drawn_length]
    omega
  | @fieldEnc v _ _ _ d D f ha hl ho hb hD hf =>
    have hlen : D.length = s.len.toNat := by
      rw [hD, List.length_append, Memory.readBytes_length hb, zeros_length]
      omega
    refine State.ok_setResult1 (State.ok_setResult0 (State.ok_write
      (State.ok_afterDraw (State.ok_hmacAbsorb hs ha _) _) ?_) _) _
    rw [fieldWire_length (by rw [State.drawn_length, hf, hlen]), hlen]
    simpa using ho
  | @fieldDec v _ _ _ w length D ha ho hb hn hD =>
    have hle : D.length ≤ length.toNat := hD ▸ slice_length_le _ _ _
    refine State.ok_setResult2 (State.ok_setResult1 (State.ok_setResult0 (State.ok_write
      (State.ok_hmacAbsorb hs ha _) ?_) _) _) _
    rw [hmacAbsorb_par]
    omega
  | fieldCount => exact State.ok_setResult0 hs _
  | @fieldTerm v n hn ho =>
    have hge := wireLen_ge 0 v
    refine State.ok_setResult1 (State.ok_setResult0 (State.ok_write (State.ok_afterDraw hs _) ?_) _) _
    simp only [State.afterDraw_par, List.length_append, State.drawn_length, List.length_cons, List.length_nil]
    omega
  | rngBytes ho => exact State.ok_write (State.ok_afterDraw hs _) (by simpa using ho)
  | rngByte | rngInt | rngBound => exact State.ok_setResult0 (State.ok_afterDraw hs _) _
  | rngLong => exact State.ok_setResult1 (State.ok_setResult0 (State.ok_afterDraw hs _) _) _
  | rngSeed hl hb =>
    obtain ⟨h1, h2, h3, h4, -, -⟩ := hs.rng
    exact State.ok_setRng hs ⟨h1, h2, h3, h4, Nat.zero_le _, Memory.readBytes_length hb ▸ hl⟩
  | rngCycle h0 =>
    obtain ⟨h1, h2, h3, -, -, h6⟩ := hs.rng
    exact State.ok_setRng hs ⟨h1, h2, h3, h0, Nat.zero_le _, h6⟩

end

/-- Every command keeps the invariant. -/
theorem exec_ok {i : Instr} {s t : State} (hs : s.Ok) (h : exec i s = .next t) : t.Ok := by
  rcases exec_ends s i t h with ⟨e, -, rfl⟩ | ⟨u, hu, rfl⟩
  · exact State.ok_errStatus hs e
  · exact State.ok_okStatus (hu.ok hs)

/-! ## The host's accesses -/

/-- `t` is `s` but for the registers and the host's side. -/
structure SameBlock (s t : State) : Prop where
  par : t.par = s.par
  mem : t.mem = s.mem
  ctx : t.ctx = s.ctx
  hctx : t.hctx = s.hctx
  rng : t.rng = s.rng

theorem SameBlock.ok {s t : State} (h : SameBlock s t) (hs : s.Ok) : t.Ok := by
  obtain ⟨hpar, hmem, hctx, hhctx, hrng⟩ := h
  obtain ⟨a, b, c, d, e, f, g, i, j, k⟩ := hs
  refine ⟨?_, ?_, ?_, ?_, ?_, ?_, ?_, ?_, ?_, ?_⟩
  all_goals simpa only [hpar, hmem, hctx, hhctx, hrng, State.nctx, State.nhctx]

/-- What a host access or a reset can do to the block: nothing to its own state, run a command, write bytes inside
DMEM, or reset it (R14, R66, R67, R330). -/
inductive HostEffect (s : State) : State → Prop where
  | registers {t} (h : SameBlock s t) : HostEffect s t
  | command {w i t} (h : exec i { s with cmd := w } = .next t) : HostEffect s t
  | wrote {a v} (h : a + v.length ≤ s.par.dmemSize) : HostEffect s (s.write a v)
  | reset {pass} : HostEffect s (State.afterReset s.nctx s.nhctx s.par pass s.rng.ent s.port)

theorem runCommand_effect {s t : State} {w : Word} (h : runCommand w { s with cmd := w } = .next t) : HostEffect s t := by
  unfold runCommand at h
  split at h
  · obtain rfl := raise_eq_next.1 h
    exact .registers ⟨rfl, rfl, rfl, rfl, rfl⟩
  · exact .command h

theorem hostWriteReg_effect {s t : State} {r : Reg} {x : Word} (h : hostWriteReg r x s = .next t) : HostEffect s t := by
  cases r with
  | cmd => exact runCommand_effect h
  | _ =>
    obtain rfl := Host.Outcome.next.inj h
    exact .registers ⟨rfl, rfl, rfl, rfl, rfl⟩

theorem leBytes_length (w : Width) (x : Word) : (leBytes w x).length = w.bytes := by cases w <;> rfl

theorem hostAccess_effect {s t : State} {op : HostOp} (h : hostAccess op s = .next t) : HostEffect s t := by
  cases op with
  | readReg w o =>
    simp only [hostAccess] at h
    split at h
    · obtain rfl := Host.Outcome.next.inj h
      exact .registers ⟨rfl, rfl, rfl, rfl, rfl⟩
    · cases h
  | writeReg w o x =>
    simp only [hostAccess] at h
    split at h
    · exact hostWriteReg_effect h
    · cases h
  | readMem w a =>
    simp only [hostAccess] at h
    split at h
    · split at h
      · cases h
      · obtain rfl := Host.Outcome.next.inj h
        exact .registers ⟨rfl, rfl, rfl, rfl, rfl⟩
    · cases h
  | writeMem w a x =>
    simp only [hostAccess] at h
    split at h
    · rename_i hok
      obtain rfl := Host.Outcome.next.inj h
      exact .wrote (by simpa only [leBytes_length] using hok.2)
    · cases h
  | reset pass =>
    obtain rfl := Host.Outcome.next.inj h
    exact .reset

/-- A step is one host access, or none. -/
theorem step_effect {s t : State} (h : step s = .next t) : ∃ rest, HostEffect { s with port := rest } t := by
  cases hp : s.port with
  | nil =>
    obtain rfl := Host.Outcome.next.inj ((step_idle hp).symm.trans h)
    exact ⟨s.port, .registers ⟨rfl, rfl, rfl, rfl, rfl⟩⟩
  | cons op rest => exact ⟨rest, hostAccess_effect ((step_cons hp).symm.trans h)⟩

/-- Reset leaves a block in order, whatever the verdict of its self-test (R332). -/
theorem State.ok_afterReset {par : Params} (hpar : Params.Ok par) {n k : Nat} (hn : 1 ≤ n ∧ n ≤ 16) (hk : 1 ≤ k ∧ k ≤ 16)
    (pass : Bool) (ent : Nat) (port : List HostOp) : (State.afterReset n k par pass ent port).Ok where
  par := hpar
  nctx_pos := by simpa [State.nctx, State.afterReset] using hn.1
  nctx_le := by simpa [State.nctx, State.afterReset] using hn.2
  nhctx_pos := by simpa [State.nhctx, State.afterReset] using hk.1
  nhctx_le := by simpa [State.nhctx, State.afterReset] using hk.2
  mem_wf := rfl
  mem_in_dmem := nofun
  ctx _ hx := List.eq_of_mem_replicate hx ▸ CipherCtx.ok_reset
  hctx _ hy := List.eq_of_mem_replicate hy ▸ HmacCtx.ok_reset
  rng := Rng.ok_reset hpar.cycle_pos ent

theorem HostEffect.ok {s t : State} (h : HostEffect s t) (hs : s.Ok) : t.Ok := by
  cases h with
  | registers h => exact h.ok hs
  | @command w _ _ h =>
    have hb : SameBlock s { s with cmd := w } := ⟨rfl, rfl, rfl, rfl, rfl⟩
    exact exec_ok (hb.ok hs) h
  | wrote h => exact State.ok_write hs h
  | reset => exact State.ok_afterReset hs.par ⟨hs.nctx_pos, hs.nctx_le⟩ ⟨hs.nhctx_pos, hs.nhctx_le⟩ _ _ _

theorem rngCycleReset_ne_zero : Config.rngCycleReset ≠ 0 := by
  unfold Config.rngCycleReset
  split
  · decide
  · assumption

theorem configParams_ok : Params.Ok Config.params := ⟨by decide, by decide, by decide, rngCycleReset_ne_zero⟩

/-- Settles O18: the block of `State.reset` has the default sizes and a nonzero period (R8). -/
theorem okHoldsAtReset : Obligations.OkHoldsAtReset :=
  State.ok_afterReset configParams_ok (by decide) (by decide) _ _ _

/-- Settles O19: whatever the host does, the effect of its access keeps the invariant. -/
theorem everyStepKeepsOk : Obligations.EveryStepKeepsOk := by
  intro s t hs h
  obtain ⟨rest, he⟩ := step_effect h
  have hb : SameBlock s { s with port := rest } := ⟨rfl, rfl, rfl, rfl, rfl⟩
  exact he.ok (hb.ok hs)

end Sys2Proof.Machine
end

section
/-! # The host port

The step that serves a register access (R66), and the registers it reads and writes: CMD, the operand and RESULT
registers, STATUS, CAPS, DMEMSZ and the reserved offsets (R21 to R29). -/

namespace Sys2Proof.Machine

variable {s t : State} {rest : List HostOp} {o : Nat} {x : Word}

/-! ## The step of a register access -/

/-- A 32-bit read at a served offset returns the register there (R66). -/
theorem step_readReg (h : s.port = .readReg .w32 o :: rest) (ho : o % 4 = 0 ∧ o < 0x100) :
    step s = .next { s with port := rest, rdata := some (s.readReg (regAt o)) } := by
  rw [step_cons h]
  exact if_pos ⟨rfl, ho⟩

/-- A 32-bit write at a served offset goes to the register there (R66). -/
theorem step_writeReg (h : s.port = .writeReg .w32 o x :: rest) (ho : o % 4 = 0 ∧ o < 0x100) :
    step s = hostWriteReg (regAt o) x { s with port := rest } := by
  rw [step_cons h]
  exact if_pos ⟨rfl, ho⟩

theorem regAt_of_reserved (h : 0x34 ≤ o) : regAt o = .reserved := by
  unfold regAt
  split
  case h_14 => rfl
  all_goals omega

theorem runCommand_of_ok {w : Word} {i : Instr} (h : decode w = .ok i) (s : State) : runCommand w s = exec i s := by
  simp [runCommand, h]

theorem runCommand_of_error {w : Word} {r : Illegal} (h : decode w = .error r) (s : State) :
    runCommand w s = raise .illegalCommand s := by simp [runCommand, h]

/-- A table word that decodes is a command word that decodes (R85). -/
theorem decode_of_decodeTableWord {nbits w : Nat} {i : Instr} (h : decodeTableWord nbits w = some i) :
    decode (BitVec.ofNat 32 (w % 2 ^ nbits)) = .ok i := by
  unfold decodeTableWord at h
  split at h
  · cases hd : decode (BitVec.ofNat 32 (w % 2 ^ nbits)) with
    | error r => rw [hd] at h; cases h
    | ok j => rw [hd] at h; exact congrArg Except.ok (Option.some.inj h)
  · cases h

/-- Settles O5: the write of CMD is `runCommand` of the word, which runs what the word decodes to. -/
theorem stepRunsTheDecodedCommand : Obligations.StepRunsTheDecodedCommand := by
  have hcmd : ∀ {s : State} {w : Word} {rest : List HostOp}, s.port = .writeReg .w32 0x00 w :: rest →
      step s = runCommand w { s with port := rest, cmd := w } := fun h => step_writeReg h ⟨rfl, by decide⟩
  refine ⟨fun s w rest i h hd => ?_, fun s w rest r h hd => ?_, fun s nbits w i hd => ?_, fun s h => step_idle h⟩
  · rw [hcmd h, runCommand_of_ok hd]
  · rw [hcmd h, runCommand_of_error hd]
    rfl
  · exact (hcmd rfl).trans (runCommand_of_ok (decode_of_decodeTableWord hd) _)

/-- Settles O7: the register map sends these offsets to registers that ignore a write, the reserved ones reading 0. -/
theorem reservedAndReadOnlyRegisters : Obligations.ReservedAndReadOnlyRegisters := by
  intro s rest o h4
  refine ⟨fun ho => ⟨fun h => ?_, fun x h => ?_⟩, fun ho x h => ?_⟩
  · rw [step_readReg h ⟨h4, by omega⟩, regAt_of_reserved ho.1]
    rfl
  · rw [step_writeReg h ⟨h4, by omega⟩, regAt_of_reserved ho.1]
    rfl
  · rw [step_writeReg h ⟨h4, by omega⟩]
    rcases ho with rfl | rfl | rfl | rfl | rfl <;> rfl

/-- Settles O8: the register map sends these offsets to the operand registers, and the reads to those and to the
others. -/
theorem operandRegisters : Obligations.OperandRegisters := by
  intro s rest x
  refine ⟨fun h => step_writeReg h (by decide), fun h => step_writeReg h (by decide), fun h => step_writeReg h (by decide),
    fun h => step_writeReg h (by decide), fun h => step_writeReg h (by decide), fun h => step_writeReg h (by decide),
    fun q hq h => ?_⟩
  simp only [List.mem_cons, List.not_mem_nil, or_false] at hq
  rcases hq with rfl | rfl | rfl | rfl | rfl | rfl | rfl | rfl | rfl | rfl <;> exact step_readReg h (by simp)

/-! ## STATUS -/

theorem statusWord_errcode (s : State) : s.statusWord.extractLsb' 0 8 = s.errcode.code :=
  BitVec.extractLsb'_append_eq_right

theorem statusWord_errseen (s : State) : s.statusWord.getLsbD 8 = s.errseen := by
  unfold State.statusWord
  rw [BitVec.getLsbD_append, BitVec.getLsbD_append]
  simp

theorem statusWord_stfail (s : State) : s.statusWord.getLsbD 9 = s.stfail := by
  unfold State.statusWord
  rw [BitVec.getLsbD_append, BitVec.getLsbD_append, BitVec.getLsbD_append]
  simp

theorem statusWord_upper (s : State) : s.statusWord.extractLsb' 10 22 = 0 := by
  unfold State.statusWord
  rw [BitVec.extractLsb'_append_eq_of_le (by decide), BitVec.extractLsb'_append_eq_of_le (by decide),
    BitVec.extractLsb'_append_eq_of_le (by decide)]
  rfl

/-- Settles O9: the four fields of the word that a read returns, and the write that clears ERRSEEN. -/
theorem statusRegister : Obligations.StatusRegister := by
  refine ⟨rfl, fun s rest x => ⟨fun h => ⟨s.statusWord, step_readReg h (by decide), statusWord_errcode s,
    statusWord_errseen s, statusWord_stfail s, statusWord_upper s⟩, fun h => ?_⟩⟩
  rw [step_writeReg h (by decide)]
  have hclear : (s.errseen && !x.getLsbD 8) = if x.getLsbD 8 then false else s.errseen := by
    cases x.getLsbD 8 <;> simp
  exact congrArg (fun b => Host.Outcome.next { s with port := rest, errseen := b }) hclear

/-! ## CAPS and DMEMSZ -/

theorem readReg_caps (s : State) : s.readReg (regAt 0x2C) = s.caps := rfl

theorem readReg_dmemsz (s : State) : s.readReg (regAt 0x30) = BitVec.ofNat 32 s.par.dmemSize := rfl

theorem caps_nctx (s : State) : s.caps.extractLsb' 0 8 = BitVec.ofNat 8 s.nctx := BitVec.extractLsb'_append_eq_right

theorem caps_nhctx (s : State) : s.caps.extractLsb' 8 8 = BitVec.ofNat 8 s.nhctx := by
  unfold State.caps
  rw [BitVec.extractLsb'_append_eq_of_le (by decide)]
  exact BitVec.extractLsb'_append_eq_right

theorem caps_version (s : State) : s.caps.extractLsb' 16 8 = 0x01 := by
  unfold State.caps
  rw [BitVec.extractLsb'_append_eq_of_le (by decide), BitVec.extractLsb'_append_eq_of_le (by decide)]
  exact BitVec.extractLsb'_append_eq_right

theorem caps_tf64 (s : State) : s.caps.getLsbD 24 = true ↔ s.par.tf64 = .k1 := by
  unfold State.caps
  rw [BitVec.getLsbD_append, BitVec.getLsbD_append, BitVec.getLsbD_append, BitVec.getLsbD_append]
  simp

theorem caps_upper (s : State) : s.caps.extractLsb' 25 7 = 0 := by
  unfold State.caps
  rw [BitVec.extractLsb'_append_eq_of_le (by decide), BitVec.extractLsb'_append_eq_of_le (by decide),
    BitVec.extractLsb'_append_eq_of_le (by decide), BitVec.extractLsb'_append_eq_of_le (by decide)]
  rfl

/-- No access changes the parameters or the number of contexts (R8). -/
theorem HostEffect.par_kept (h : HostEffect s t) : t.par = s.par ∧ t.nctx = s.nctx ∧ t.nhctx = s.nhctx := by
  cases h with
  | registers h => exact ⟨h.par, congrArg List.length h.ctx, congrArg List.length h.hctx⟩
  | command h =>
    obtain ⟨-, -, -, -, -, -, -, -, hpar, -, -⟩ := commandsKeepOperands _ _ _ h
    obtain ⟨hctx, hhctx, -⟩ := contextIsolation _ _ _ h
    exact ⟨hpar, hctx, hhctx⟩
  | wrote h => exact ⟨rfl, rfl, rfl⟩
  | reset => exact ⟨rfl, List.length_replicate, List.length_replicate⟩

/-- Settles O10: the fields of CAPS within the ranges of R8; both registers are computed from what no access changes. -/
theorem capabilityRegisters : Obligations.CapabilityRegisters := by
  intro s hs
  have hn : s.nctx < 2 ^ 8 := Nat.lt_of_le_of_lt hs.nctx_le (by decide)
  have hk : s.nhctx < 2 ^ 8 := Nat.lt_of_le_of_lt hs.nhctx_le (by decide)
  have hm : s.par.dmemSize < 2 ^ 32 := Nat.lt_of_le_of_lt hs.par.dmem_max (by decide)
  simp only [readReg_caps, readReg_dmemsz]
  refine ⟨by rw [caps_nctx, BitVec.toNat_ofNat, Nat.mod_eq_of_lt hn],
    by rw [caps_nhctx, BitVec.toNat_ofNat, Nat.mod_eq_of_lt hk], caps_version s, caps_tf64 s, caps_upper s,
    by rw [BitVec.toNat_ofNat, Nat.mod_eq_of_lt hm], fun t h => ?_⟩
  obtain ⟨rest, he⟩ := step_effect h
  obtain ⟨hpar, hctx, hhctx⟩ : t.par = s.par ∧ t.nctx = s.nctx ∧ t.nhctx = s.nhctx := he.par_kept
  exact ⟨by simp only [State.caps, hpar, hctx, hhctx], by rw [hpar]⟩

end Sys2Proof.Machine
end

section
/-! # Reset values of the contexts

CTX_CLEAR and HCTX_CLEAR put the reset value in place, with STFAIL = 1 too (R172, R223, R304). -/

namespace Sys2Proof.Machine

theorem exec_ctxClear {s : State} {c : CtxIx} (h : c.toNat < s.nctx) :
    exec (.ctxClear c) s = .next (s.setCtx c CipherCtx.reset).okStatus :=
  withCtx_of_some (List.getElem?_eq_getElem h)

theorem exec_hctxClear {s : State} {c : CtxIx} (h : c.toNat < s.nhctx) :
    exec (.hctxClear c) s = .next (s.setHctx c HmacCtx.reset).okStatus :=
  withHctx_of_some (List.getElem?_eq_getElem h)

/-- Settles O16: reset fills the list with the reset value, and CTX_CLEAR puts it in place. -/
theorem cipherContextResetValue : Obligations.CipherContextResetValue :=
  ⟨rfl, fun _ hx => List.eq_of_mem_replicate hx, fun _ _ h => exec_ctxClear h⟩

/-- Settles O17: reset fills the list with the reset value, and HCTX_CLEAR puts it in place. -/
theorem hmacContextResetValue : Obligations.HmacContextResetValue :=
  ⟨rfl, fun _ hy => List.eq_of_mem_replicate hy, fun _ _ h => exec_hctxClear h⟩

end Sys2Proof.Machine
end

section
/-! # The bytes of DMEM, one by one

What a read of several bytes says of each of them and of the shorter reads inside it (R60, R68, R78), and the number that
little-endian bytes stand for (R10). -/

namespace Sys2Proof.Machine

/-! ## Reads -/

/-- A read that succeeds holds the bytes that DMEM has at its addresses. -/
theorem Memory.get_of_readBytes {m : Memory} {a n : Nat} {bs : List Byte} (h : m.readBytes a n = some bs) {i : Nat}
    (hi : i < n) : m.get (a + i) = bs[i]? := by
  induction n generalizing a bs i with
  | zero => omega
  | succ n ih =>
    simp only [Memory.readBytes] at h
    split at h
    · rename_i b r hb hr
      cases h
      cases i with
      | zero => simpa using hb
      | succ i =>
        rw [List.getElem?_cons_succ, ← ih hr (by omega)]
        congr 1
        omega
    · cases h

/-- A read inside a longer one returns that part of it. -/
theorem Memory.readBytes_slice {m : Memory} {a N i n : Nat} {bs : List Byte} (h : m.readBytes a N = some bs)
    (hi : i + n ≤ N) : m.readBytes (a + i) n = some (slice bs i n) := by
  have hlen := Memory.readBytes_length h
  induction n generalizing i with
  | zero => simp [slice]
  | succ n ih =>
    have hb : m.get (a + i) = some bs[i] := by
      rw [Memory.get_of_readBytes h (by omega), List.getElem?_eq_getElem]
    have hr : m.readBytes (a + i + 1) n = some (slice bs (i + 1) n) := ih (i := i + 1) (by omega)
    have hcut : slice bs i (n + 1) = bs[i] :: slice bs (i + 1) n := by
      simp only [slice]
      rw [List.drop_eq_getElem_cons, List.take_succ_cons]
    simp only [Memory.readBytes, hb, hr, hcut]

/-- Every byte of a written byte string holds a value afterwards. -/
theorem Memory.get_writeBytes_inside (m : Memory) {a x : Nat} {bs : List Byte} (ha : a ≤ x) (hx : x < a + bs.length) :
    ∃ b, (m.writeBytes a bs).get x = some b := by
  obtain ⟨i, rfl⟩ := Nat.exists_eq_add_of_le ha
  have hi : i < bs.length := by omega
  exact ⟨bs[i], by rw [Memory.get_of_readBytes (Memory.readBytes_writeBytes m a bs) hi, List.getElem?_eq_getElem]⟩

/-! ## Little-endian values -/

/-- The number that two words side by side stand for. -/
theorem toNat_append_eq_add {m n : Nat} (x : BitVec m) (y : BitVec n) :
    (x ++ y).toNat = 2 ^ n * x.toNat + y.toNat := by
  rw [BitVec.toNat_append, ← Nat.shiftLeft_add_eq_or_of_lt y.isLt, Nat.shiftLeft_eq, Nat.mul_comm]

/-- `le32` of R10 as a sum. -/
theorem le32_toNat (b : List Byte) : (le32 b).toNat = (b.getD 0 0).toNat + 256 * (b.getD 1 0).toNat +
    65536 * (b.getD 2 0).toNat + 16777216 * (b.getD 3 0).toNat := by
  unfold le32
  simp only [toNat_append_eq_add]
  omega

/-- The value of one byte of a word: the byte with zeros above it. -/
theorem le32_byte (x : Word) {i : Nat} (hi : i < 4) :
    le32 (slice (LE32 x) i 1) = (x.extractLsb' (8 * i) 8).setWidth 32 := by
  apply BitVec.eq_of_toNat_eq
  obtain rfl | rfl | rfl | rfl : i = 0 ∨ i = 1 ∨ i = 2 ∨ i = 3 := by omega
  all_goals
    simp [le32_toNat, LE32, slice]
    omega

/-- The value of one aligned half of a word: the half with zeros above it. -/
theorem le32_half (x : Word) {i : Nat} (hi : i < 2) :
    le32 (slice (LE32 x) (2 * i) 2) = (x.extractLsb' (16 * i) 16).setWidth 32 := by
  apply BitVec.eq_of_toNat_eq
  obtain rfl | rfl : i = 0 ∨ i = 1 := by omega
  all_goals
    simp [le32_toNat, LE32, slice, BitVec.extractLsb'_toNat, Nat.shiftRight_eq_div_pow]
    omega

end Sys2Proof.Machine
end

section
/-! # Host accesses to the register space and to DMEM

One rule for each way an access can go: served, refused because a byte was never written (R78), or a bus error (R66,
R67). -/

namespace Sys2Proof.Machine

variable {s t : State} {rest : List HostOp} {w : Width} {o a : Nat} {x : Word}

/-! ## Register accesses -/

theorem step_readReg_busError (h : s.port = .readReg w o :: rest) (ho : ¬regAccessOk w o) :
    step s = .fault .busErrorRegister := by
  rw [step_cons h]
  exact if_neg ho

theorem step_writeReg_busError (h : s.port = .writeReg w o x :: rest) (ho : ¬regAccessOk w o) :
    step s = .fault .busErrorRegister := by
  rw [step_cons h]
  exact if_neg ho

/-! ## DMEM accesses -/

/-- A served read of bytes that all hold values returns their little-endian value (R67). -/
theorem step_readMem (h : s.port = .readMem w a :: rest) (ha : s.memAccessOk w a) {b : List Byte}
    (hb : s.mem.readBytes a w.bytes = some b) : step s = .next { s with port := rest, rdata := some (leValue b) } := by
  rw [step_cons h]
  simp only [hostAccess]
  rw [if_pos ha, hb]

theorem step_readMem_unwritten (h : s.port = .readMem w a :: rest) (ha : s.memAccessOk w a)
    (hb : s.mem.readBytes a w.bytes = none) : step s = .refused .unwrittenDmem := by
  rw [step_cons h]
  simp only [hostAccess]
  rw [if_pos ha, hb]

theorem step_readMem_busError (h : s.port = .readMem w a :: rest) (ha : ¬s.memAccessOk w a) :
    step s = .fault .busErrorDmem := by
  rw [step_cons h]
  exact if_neg ha

theorem step_writeMem (h : s.port = .writeMem w a x :: rest) (ha : s.memAccessOk w a) :
    step s = .next { s with port := rest, mem := s.mem.writeBytes a (leBytes w x) } := by
  rw [step_cons h]
  exact if_pos ha

theorem step_writeMem_busError (h : s.port = .writeMem w a x :: rest) (ha : ¬s.memAccessOk w a) :
    step s = .fault .busErrorDmem := by
  rw [step_cons h]
  exact if_neg ha

theorem leBytes_eq_map (w : Width) (x : Word) :
    leBytes w x = (List.range w.bytes).map fun i => x.extractLsb' (8 * i) 8 := by cases w <;> rfl

/-- What a 32-bit write that was served leaves behind: the four bytes of its value, and the rest of the queue. -/
theorem wrote_word_of_step (h : s.port = .writeMem .w32 a x :: rest) (ht : step s = .next t) :
    a % 4 = 0 ∧ a + 4 ≤ t.par.dmemSize ∧ t.port = rest ∧ t.mem.readBytes a 4 = some (LE32 x) := by
  by_cases ha : s.memAccessOk .w32 a
  · obtain rfl := Host.Outcome.next.inj ((step_writeMem h ha).symm.trans ht)
    obtain ⟨hal, hin⟩ := ha
    exact ⟨hal, hin, rfl, Memory.readBytes_writeBytes s.mem a (LE32 x)⟩
  · cases (step_writeMem_busError h ha).symm.trans ht

/-- A read inside a word whose four bytes are those of `x` returns that part of `x` (R68). -/
theorem step_readMem_inside (h : t.port = .readMem w (a + o) :: rest) (ha : t.memAccessOk w (a + o))
    (hm : t.mem.readBytes a 4 = some (LE32 x)) (ho : o + w.bytes ≤ 4) :
    step t = .next { t with port := rest, rdata := some (le32 (slice (LE32 x) o w.bytes)) } :=
  step_readMem h ha (Memory.readBytes_slice hm ho)

/-- Settles O11: the rules of a DMEM access, with the value of the bytes read and the bytes written spelled out. -/
theorem hostDmemAccess : Obligations.HostDmemAccess := by
  intro s rest w a x
  refine ⟨fun h => ?_, fun h => ?_⟩
  · split
    · rename_i ha
      exact ⟨fun b hb => ⟨_, step_readMem h ha hb, le32_toNat b⟩, step_readMem_unwritten h ha⟩
    · rename_i ha
      exact step_readMem_busError h ha
  · split
    · rename_i ha
      exact ⟨_, step_writeMem h ha, rfl, leBytes_eq_map w x ▸ Memory.writeBytes_spec s.mem a (leBytes w x)⟩
    · rename_i ha
      exact step_writeMem_busError h ha

/-- Settles O12: the write leaves the four bytes of the word, and each read takes its part of them. -/
theorem mixedWidthAccess : Obligations.MixedWidthAccess := by
  intro s t rest a x op h ht
  obtain ⟨hal, hin, hport, hm⟩ := wrote_word_of_step h ht
  refine ⟨?_, ?_, ?_⟩
  · rintro i hi rfl
    rw [← le32_byte x hi]
    have hok : t.memAccessOk .w8 (a + i) := by
      simp only [State.memAccessOk, Width.bytes]
      omega
    exact step_readMem_inside (w := .w8) hport hok hm hi
  · rintro i hi rfl
    rw [← le32_half x hi]
    have hok : t.memAccessOk .w16 (a + 2 * i) := by
      simp only [State.memAccessOk, Width.bytes]
      omega
    exact step_readMem_inside (w := .w16) hport hok hm (by simp only [Width.bytes]; omega)
  · rintro rfl
    rw [step_readMem hport ⟨hal, hin⟩ hm, leValue, le32_LE32]

/-- Settles O13: a served read, of a register or of DMEM, only returns its value. -/
theorem hostReadsHaveNoSideEffect : Obligations.HostReadsHaveNoSideEffect := by
  rintro s t op rest h ht (⟨w, o, rfl⟩ | ⟨w, a, rfl⟩)
  · by_cases ho : regAccessOk w o
    · obtain ⟨rfl, ho⟩ := ho
      obtain rfl := Host.Outcome.next.inj ((step_readReg h ho).symm.trans ht)
      rfl
    · cases (step_readReg_busError h ho).symm.trans ht
  · by_cases ha : s.memAccessOk w a
    · cases hb : s.mem.readBytes a w.bytes with
      | none => cases (step_readMem_unwritten h ha hb).symm.trans ht
      | some b =>
        obtain rfl := Host.Outcome.next.inj ((step_readMem h ha hb).symm.trans ht)
        rfl
    · cases (step_readMem_busError h ha).symm.trans ht

end Sys2Proof.Machine
end

section
/-! # No command ends in a bus error

A bus error is the answer to a host access that breaks R66 or R67; a command ends in a next state or is refused. -/

namespace Sys2Proof.Machine

/-- The outcome is no fault. -/
def NoFault (r : Res) : Prop := ∀ f, r ≠ .fault f

/-! ## One rule for each shared operation -/

section
variable {s : State} {k : Res}

theorem NoFault.succeed : NoFault (succeed s) := fun _ => succeed_ne_fault

theorem NoFault.raise {e : ErrCode} : NoFault (raise e s) := fun _ => raise_ne_fault

theorem NoFault.check {p : Prop} [Decidable p] {e : ErrCode} (h : NoFault k) :
    NoFault (if p then Machine.raise e s else k) := by
  split
  · exact .raise
  · exact h

theorem NoFault.unlocked (h : NoFault k) : NoFault (unlocked s k) := by
  cases hl : s.stfail with
  | true => exact unlocked_of_failed hl ▸ .raise
  | false => exact unlocked_of_passed hl ▸ h

theorem NoFault.withCtx {c : CtxIx} {k : CipherCtx → Res} (h : ∀ x, NoFault (k x)) : NoFault (withCtx c s k) := by
  cases hx : s.ctx[c.toNat]? with
  | none => exact withCtx_of_none hx ▸ .raise
  | some x => exact withCtx_of_some hx ▸ h x

theorem NoFault.withHctx {c : CtxIx} {k : HmacCtx → Res} (h : ∀ y, NoFault (k y)) : NoFault (withHctx c s k) := by
  cases hy : s.hctx[c.toNat]? with
  | none => exact withHctx_of_none hy ▸ .raise
  | some y => exact withHctx_of_some hy ▸ h y

theorem NoFault.withBytes {a n : Nat} {k : List Byte → Res} (h : ∀ b, NoFault (k b)) : NoFault (withBytes s a n k) := by
  cases hb : s.mem.readBytes a n with
  | none => exact withBytes_of_none hb ▸ nofun
  | some b => exact withBytes_of_some hb ▸ h b

theorem NoFault.dataChecks {c : CtxIx} {mode : Chain} {d : Dir} {k : CipherCtx → List Byte → Res}
    (h : ∀ x p, NoFault (k x p)) : NoFault (dataChecks c mode d s k) :=
  .unlocked <| .withCtx fun x => .check <| .check <| .check <| .check <| .check <| .check <| .withBytes (h x)

theorem NoFault.chainInit {c : CtxIx} {z : Bool} {mode : Chain} : NoFault (chainInit c z mode s) :=
  .unlocked <| .withCtx fun _ => .check <| by
    split
    · exact .succeed
    · exact .check (.withBytes fun _ => .succeed)

theorem NoFault.codecChecks {u : Bool} {h : CtxIx} {k : Option HmacCtx → Res} (hk : ∀ y, NoFault (k y)) :
    NoFault (codecChecks u h s k) :=
  .check <| .unlocked <| by
    split
    · exact .withHctx fun y => hk (some y)
    · exact hk none

end

/-! ## The commands -/

section
variable {s : State} {c h : CtxIx} {v : Format} {u : Bool}

theorem execBlkPad_noFault : NoFault (execBlkPad v u h s) :=
  .codecChecks fun _ => .check <| .check <| .check <| .withBytes fun _ => .succeed

theorem execFieldEnc_noFault : NoFault (execFieldEnc v u h s) :=
  .codecChecks fun _ => .check <| .check <| .check <| .check <| .check <| .check <| .withBytes fun _ => .succeed

theorem execFieldDec_noFault : NoFault (execFieldDec v u h s) :=
  .codecChecks fun _ => .check <| .check <| .check <| .withBytes fun _ => .check <| .check .succeed

theorem execBfWeakchk_noFault : NoFault (execBfWeakchk c s) :=
  .unlocked <| .withCtx fun x => by
    cases x.alg with
    | none => exact .raise
    | tf => exact .raise
    | bf => exact .succeed

end

/-- No command ends in a bus error. -/
theorem exec_noFault (i : Instr) (s : State) : NoFault (exec i s) := by
  cases i with
  | nop => exact .succeed
  | bfKey | tfKey => exact .unlocked <| .withCtx fun _ => .check <| .check <| .withBytes fun _ => .succeed
  | cbcInit | cfbInit => exact .chainInit
  | ctxClear => exact .withCtx fun _ => .succeed
  | bfWeakchk => exact execBfWeakchk_noFault
  | ecbEnc | ecbDec | cbcEnc | cbcDec | cfbEnc | cfbDec => exact .dataChecks fun _ _ => .succeed
  | sha256 => exact .unlocked <| .check <| .check <| .withBytes fun _ => .succeed
  | kdf =>
    exact .unlocked <| .check <| .check <| .check <| .check <| .withBytes fun _ => .withBytes fun _ => .succeed
  | hmacInit | hmacUpdate => exact .unlocked <| .withHctx fun _ => .check <| .check <| .withBytes fun _ => .succeed
  | hmacDigest => exact .unlocked <| .withHctx fun _ => .check <| .check .succeed
  | hctxClear => exact .withHctx fun _ => .succeed
  | blkPad => exact execBlkPad_noFault
  | fieldEnc => exact execFieldEnc_noFault
  | fieldDec => exact execFieldDec_noFault
  | fieldCount | rngByte | rngInt | rngLong => exact .unlocked .succeed
  | fieldTerm | rngBytes | rngBound | rngCycle => exact .unlocked (.check .succeed)
  | rngSeed => exact .unlocked <| .check <| .check <| .withBytes fun _ => .succeed

/-- A write of a register is no bus error, the write of CMD with the command it runs included (R23, R66). -/
theorem hostWriteReg_noFault (r : Reg) (x : Word) (s : State) : NoFault (hostWriteReg r x s) := by
  cases r with
  | cmd =>
    simp only [hostWriteReg]
    cases hd : decode x with
    | error => exact runCommand_of_error hd _ ▸ .raise
    | ok i => exact runCommand_of_ok hd _ ▸ exec_noFault i _
  | _ => nofun

/-- Settles O6: the port serves exactly the accesses of R66, and what it serves does not fault. -/
theorem registerAccessRule : Obligations.RegisterAccessRule := by
  intro s rest w o x
  refine ⟨fun h => ?_, fun h => ?_⟩
  · split
    · rename_i hok
      obtain ⟨rfl, ho⟩ := hok
      exact step_readReg h ho
    · rename_i hok
      exact step_readReg_busError h hok
  · split
    · rename_i hok
      obtain ⟨rfl, ho⟩ := hok
      exact step_writeReg h ho ▸ hostWriteReg_noFault _ _ _
    · rename_i hok
      exact step_writeReg_busError h hok

end Sys2Proof.Machine
end

section
/-! # The region that a command writes

A completion writes one byte string, which fills the region that the command's rule computes (R79); an error writes
none. The one fact that the list of completions does not hold is FIELD_DEC's check that the wire holds the whole field
(R246, R252), without which the data could be shorter than declared. -/

namespace Sys2Proof.Machine

variable {i : Instr} {s t u : State}

/-- A check that does not stop a command which succeeds is passed. -/
theorem check_passed {p : Prop} [Decidable p] {e : ErrCode} {k : Res} (h : (if p then raise e s else k) = .next t)
    (ht : t.errcode = .ok) (he : e ≠ .ok := by decide) : ¬p ∧ k = .next t := by
  split at h
  · obtain rfl := raise_eq_next.1 h
    exact absurd ht he
  · exact ⟨‹_›, h⟩

theorem State.declaredLen_of_readBytes {w : List Byte} (h : s.mem.readBytes s.src.toNat s.len.toNat = some w) :
    s.declaredLen = (le32 (slice w 0 4)).toNat := by
  simp [State.declaredLen, h]

/-- FIELD_DEC succeeds only on a wire that holds the whole declared field (R246). -/
theorem execFieldDec_wireLen_le {v : Format} {b : Bool} {h : CtxIx} (hn : execFieldDec v b h s = .next t)
    (ht : t.errcode = .ok) : wireLen s.declaredLen v ≤ s.len.toNat := by
  rcases codecChecks_eq_next hn with ⟨e, he, rfl⟩ | ⟨-, -, y, -, hn⟩
  · exact absurd ht he
  obtain ⟨-, hn⟩ := check_passed hn ht
  obtain ⟨-, hn⟩ := check_passed hn ht
  obtain ⟨-, hn⟩ := check_passed hn ht
  obtain ⟨w, hw, hn⟩ := withBytes_eq_next.1 hn
  obtain ⟨hlen, -⟩ := check_passed hn ht
  rw [State.declaredLen_of_readBytes hw]
  exact not_lt.1 hlen

/-! ## The lengths of what is written -/

/-- The data of a field that the wire holds is as long as declared (R242, R243). -/
theorem slice_dataOffset_length {w : List Byte} {n : Nat} {v : Format} (h : wireLen n v ≤ w.length) :
    (slice w (dataOffset v) n).length = n := by
  have hge := wireLen_ge n v
  rw [slice, List.length_take, List.length_drop]
  cases v with
  | v12 =>
    simp only [dataOffset, if_true] at hge ⊢
    omega
  | v3 =>
    simp only [dataOffset, reduceCtorEq, if_false] at hge ⊢
    omega

section
variable {c : CtxIx} {mode : Chain} {d : Dir} {x : CipherCtx} {p : List Byte}

/-- As many whole blocks as SRC holds are LEN bytes (R173). -/
theorem DataPassed.flatten_length (hd : DataPassed s c mode d x p) {bs : List (List Byte)}
    (hn : bs.length = (x.split p).length) (hb : ∀ b ∈ bs, b.length = x.bs) : bs.flatten.length = s.len.toNat := by
  rw [length_flatten_of_forall hb, hn, CipherCtx.split_length, Memory.readBytes_length hd.bytes]
  exact Nat.div_mul_cancel (Nat.dvd_of_mod_eq_zero hd.len_mult)

theorem DataPassed.ecb_length (hd : DataPassed s c mode d x p) {F : List Byte → List Byte}
    (hF : ∀ b, (F b).length = x.bs) : ((x.split p).map F).flatten.length = s.len.toNat :=
  hd.flatten_length (List.length_map _) (List.forall_mem_map.2 fun b _ => hF b)

theorem DataPassed.chained_length (hd : DataPassed s c mode d x p) {r : List (List Byte) × List Byte}
    (hr : WholePass x.bs (x.split p).length r) : r.1.flatten.length = s.len.toNat :=
  hd.flatten_length hr.count hr.block

end

/-! ## Completions -/

@[simp] theorem hmacAbsorb_mem (h : CtxIx) (y : Option HmacCtx) (d : List Byte) (s : State) :
    (hmacAbsorb h y d s).mem = s.mem := by cases y <;> rfl

/-- From `s` to `u` DMEM changes by one write, of `n` bytes at `a`. -/
def Fills (s u : State) (a n : Nat) : Prop := ∃ bs : List Byte, bs.length = n ∧ u.mem = s.mem.writeBytes a bs

theorem Fills.nothing (a : Nat) (h : u.mem = s.mem) : Fills s u a 0 := ⟨[], rfl, h⟩

theorem Fills.of_eq {a n : Nat} {bs : List Byte} (hl : bs.length = n) (h : u.mem = s.mem.writeBytes a bs) :
    Fills s u a n := ⟨bs, hl, h⟩

theorem Fills.of_write {a n : Nat} {bs : List Byte} (hl : bs.length = n) (h : u.mem = s.mem) :
    Fills s (u.write a bs) a n := .of_eq hl (h ▸ State.write_mem u a bs)

/-- A completion writes its command's region and nothing else (R79). -/
theorem Completes.fills (h : Completes s i u) (hs : s.Ok)
    (hwire : ∀ v b k, i = .fieldDec v b k → wireLen s.declaredLen v ≤ s.len.toNat) :
    Fills s u (writeRegion i s).1 (writeRegion i s).2 := by
  cases h with
  | ecbEnc hd => exact .of_write (hd.ecb_length (hd.blockEnc_length hs)) rfl
  | ecbDec hd => exact .of_write (hd.ecb_length (hd.blockDec_length hs)) rfl
  | cbcEnc hd hr =>
    exact .of_write (hd.chained_length (hr ▸ cbcEncBlocks_whole (hd.blockEnc_length hs)
      (hd.ctx_ok hs).vector_length _)) rfl
  | cbcDec hd hr =>
    exact .of_write (hd.chained_length (hr ▸ cbcDecBlocks_whole (hd.blockDec_length hs)
      (hd.ctx_ok hs).vector_length fun _ => CipherCtx.length_of_mem_split)) rfl
  | cfbEnc hd hr =>
    exact .of_write (hd.chained_length (hr ▸ cfbEncBlocks_whole (hd.blockEnc_length hs)
      (hd.ctx_ok hs).vector_length fun _ => CipherCtx.length_of_mem_split)) rfl
  | cfbDec hd hr =>
    exact .of_write (hd.chained_length (hr ▸ cfbDecBlocks_whole (hd.blockEnc_length hs)
      (hd.ctx_ok hs).vector_length fun _ => CipherCtx.length_of_mem_split)) rfl
  | @sha256 m => exact .of_write (sha256_length m) rfl
  | @kdf pass salt => exact .of_write (stretchKey_length pass salt _) rfl
  | hmacDigest hy => exact .of_write (HmacCtx.ok_digested (State.hctx_ok_of_getElem? hs hy)).memo_length rfl
  | @blkPad v _ _ _ d pad _ _ hb hpad =>
    have hlen : (d ++ s.drawn pad).length = paddedLen s.len.toNat v := by
      have hle := le_paddedLen s.len.toNat v
      rw [List.length_append, Memory.readBytes_length hb, State.drawn_length]
      omega
    exact .of_eq hlen (by simp [writeRegion])
  | @fieldEnc v _ _ _ d D f _ hl _ hb hD hf =>
    have hlen : D.length = s.len.toNat := by
      rw [hD, List.length_append, Memory.readBytes_length hb, zeros_length]
      omega
    have hfiller : (s.drawn f).length = fillerLen D.length v := by rw [State.drawn_length, hf, hlen]
    have hwlen : (fieldWire v (s.arg1.setWidth 8) D (s.drawn f)).length = wireLen s.len.toNat v :=
      hlen ▸ fieldWire_length hfiller
    exact .of_eq hwlen (by simp [writeRegion])
  | @fieldDec v b k _ w length D _ _ hb hn hD =>
    have hdecl : s.declaredLen = length.toNat := hn ▸ State.declaredLen_of_readBytes hb
    have hlen : D.length = s.declaredLen := by
      rw [hD, hdecl]
      exact slice_dataOffset_length (by simpa [Memory.readBytes_length hb, hdecl] using hwire v b k rfl)
    exact .of_eq hlen (by simp [writeRegion])
  | @fieldTerm v n hn =>
    have hlen : ([0x00, 0x00, 0x00, 0x00, 0xFF] ++ s.drawn n).length = wireLen 0 v := by
      have hge := wireLen_ge 0 v
      simp only [List.length_append, State.drawn_length, List.length_cons, List.length_nil]
      omega
    exact .of_eq hlen (by simp [writeRegion])
  | rngBytes => exact .of_write (State.drawn_length _ _) rfl
  | _ => exact .nothing 0 (by simp)

/-- A command that succeeds writes its region and nothing else (R79). -/
theorem exec_fills (hs : s.Ok) (h : exec i s = .next t) (ht : t.errcode = .ok) :
    Fills s t (writeRegion i s).1 (writeRegion i s).2 := by
  rcases exec_ends s i t h with ⟨e, he, rfl⟩ | ⟨u, hu, rfl⟩
  · exact absurd ht he
  · refine hu.fills hs ?_
    rintro v b k rfl
    exact execFieldDec_wireLen_le h ht

/-- Settles O24: an error changes STATUS alone, and a success is one write that fills the command's region. -/
theorem writeFootprint : Obligations.WriteFootprint := by
  intro i s t hs h
  refine ⟨fun ht => ?_, fun ht => ?_⟩
  · rcases exec_ends s i t h with ⟨e, -, rfl⟩ | ⟨u, -, rfl⟩
    · rfl
    · exact absurd rfl ht
  · obtain ⟨bs, hlen, hmem⟩ := exec_fills hs h ht
    rw [← hlen, hmem]
    exact ⟨Memory.get_writeBytes_outside _ _ _, fun _ => Memory.get_writeBytes_inside _⟩

end Sys2Proof.Machine
end

section
/-! # The encoding of the commands

A command word is the concatenation of its fields (R86), so taking a word apart and putting it together are inverse to
each other as long as the reserved bits are 0. The opcode map (R89) and `encode` then only have to agree row by row. -/

namespace Sys2Proof

/-! ## The fields of a word (R86) -/

/-- R86: the fields lie side by side, and bits 31:19 are 0. -/
theorem assemble_eq_append (op : BitVec 8) (c h : CtxIx) (u v z : Bool) :
    assemble op c h u v z =
      (0 : BitVec 13) ++ BitVec.ofBool z ++ BitVec.ofBool v ++ BitVec.ofBool u ++ h ++ c ++ op := by
  refine BitVec.eq_of_getLsbD_eq fun i hi => ?_
  simp only [assemble, BitVec.getLsbD_append, BitVec.getLsbD_or, BitVec.getLsbD_shiftLeft, BitVec.getLsbD_setWidth,
    BitVec.getLsbD_ofBool]
  grind

@[simp] theorem fieldsOf_assemble (op : BitVec 8) (c h : CtxIx) (u v z : Bool) :
    fieldsOf (assemble op c h u v z) = { op, c, h, u, v, z, reserved := 0 } := by
  rw [assemble_eq_append]
  unfold fieldsOf
  congr 1
  case e_op | e_c | e_h | e_reserved =>
    refine BitVec.eq_of_getLsbD_eq fun i hi => ?_
    simp only [BitVec.getLsbD_extractLsb', BitVec.getLsbD_append]
    grind
  case e_u | e_v | e_z =>
    simp only [BitVec.getLsbD_append, BitVec.getLsbD_ofBool]
    grind

theorem assemble_fieldsOf {w : Word} (hr : (fieldsOf w).reserved = 0) :
    assemble (fieldsOf w).op (fieldsOf w).c (fieldsOf w).h (fieldsOf w).u (fieldsOf w).v (fieldsOf w).z = w := by
  rw [assemble_eq_append, ← hr]
  refine BitVec.eq_of_getLsbD_eq fun i hi => ?_
  simp only [fieldsOf, BitVec.getLsbD_append, BitVec.getLsbD_extractLsb', BitVec.getLsbD_ofBool]
  grind

@[simp] theorem formatBit_formatOf (v : Bool) : formatBit (formatOf v) = v := by cases v <;> rfl

@[simp] theorem formatOf_formatBit (v : Format) : formatOf (formatBit v) = v := by cases v <;> rfl

/-! ## The decoder (R88, R90) -/

theorem unusedFieldsZero_iff (r : Uses) (f : Fields) :
    unusedFieldsZero r f = true ↔ (r.c = false → f.c = 0) ∧ (r.h = false → f.h = 0) ∧ (r.u = false → f.u = false) ∧
      (r.v = false → f.v = false) ∧ (r.z = false → f.z = false) := by
  simp only [unusedFieldsZero, Bool.and_eq_true, Bool.or_eq_true, beq_iff_eq, Bool.not_eq_true', and_assoc]
  grind

/-- R90: the checks that a word passes exactly when it is the encoding of a command. -/
theorem decode_eq_ok_iff (w : Word) (i : Instr) :
    decode w = .ok i ↔ (fieldsOf w).reserved = 0 ∧ i.wellFormed = true ∧
      ∃ r, opcodeRow (fieldsOf w) = some (r, i) ∧ unusedFieldsZero r (fieldsOf w) = true := by
  unfold decode
  split
  case isTrue hr => exact ⟨nofun, fun h => absurd h.1 hr⟩
  case isFalse hr =>
    cases hrow : opcodeRow (fieldsOf w) with
    | none => simp
    | some row =>
      simp only [Option.some.injEq]
      split_ifs <;> grind

/-! ## The opcode map (R89) -/

theorem opcode_of_opcodeRow {f : Fields} {r : Uses} {i : Instr} (h : opcodeRow f = some (r, i)) : i.opcode = f.op := by
  apply BitVec.eq_of_toNat_eq
  unfold opcodeRow at h
  split at h
  case h_32 => cases h
  all_goals
    rename_i hop
    cases h
    exact hop.symm

/-- A command that the map selects, with every field it does not use at 0, has these fields in its encoding. -/
theorem encode_of_opcodeRow {f : Fields} {r : Uses} {i : Instr} (h : opcodeRow f = some (r, i))
    (hu : unusedFieldsZero r f = true) : encode i = assemble f.op f.c f.h f.u f.v f.z := by
  rw [← opcode_of_opcodeRow h]
  rw [unusedFieldsZero_iff] at hu
  unfold opcodeRow at h
  split at h
  case h_32 => cases h
  all_goals
    cases h
    simp_all [encode, usesNone, usesC, usesCZ, usesH, usesVUH, usesV]

@[simp] theorem encode_reserved (i : Instr) : (fieldsOf (encode i)).reserved = 0 := by
  cases i <;> exact congrArg Fields.reserved (fieldsOf_assemble ..)

/-- The map sends the fields of an encoding back to the command, which uses all that are not 0. -/
theorem opcodeRow_encode (i : Instr) :
    ∃ r, opcodeRow (fieldsOf (encode i)) = some (r, i) ∧ unusedFieldsZero r (fieldsOf (encode i)) = true := by
  cases i <;> simp [encode, opcodeRow, Instr.opcode, unusedFieldsZero_iff, usesNone, usesC, usesCZ, usesH, usesVUH, usesV]

/-- Settles O1: an encoding has no reserved bit set, and the opcode map reads the command back from its fields. -/
theorem decodeInvertsEncode : Obligations.DecodeInvertsEncode :=
  fun i hi => (decode_eq_ok_iff _ _).2 ⟨encode_reserved i, hi, opcodeRow_encode i⟩

/-- Settles O2: the row that decoded the word fixes all its fields, and the fields put together are the word. -/
theorem encodingIsUnique : Obligations.EncodingIsUnique := by
  intro w i h
  obtain ⟨hr, hi, r, hrow, hu⟩ := (decode_eq_ok_iff w i).1 h
  exact ⟨hi, (encode_of_opcodeRow hrow hu).trans (assemble_fieldsOf hr)⟩

end Sys2Proof
end

section
/-! # Illegal command words, and the host assembly

What a write of an illegal word to CMD does (R90, R91), the examples of R94, and the pseudo-instructions as writes of
operand registers and of one command word (R92, R93). -/

namespace Sys2Proof.Machine

/-! ## Illegal words -/

/-- A word that decodes to no command raises IllegalCommand (R90). -/
theorem runCommand_of_illegal {w : Word} (h : ∀ i, decode w ≠ .ok i) (s : State) :
    runCommand w s = .next { s with errcode := .illegalCommand, errseen := true } := by
  cases hd : decode w with
  | error r => exact runCommand_of_error hd s
  | ok i => exact absurd hd (h i)

theorem opcode_defined (i : Instr) : ¬undefinedOpcode i.opcode.toNat := by
  cases i <;> simp [undefinedOpcode, Instr.opcode]

/-- Settles O3: a word that decodes has reserved bits of 0 and a defined opcode and is an encoding; the encoding of a
well-formed command decodes to it. -/
theorem illegalWordsRaise : Obligations.IllegalWordsRaise := by
  intro w s
  refine ⟨fun hill => runCommand_of_illegal (fun i hd => ?_) s, fun i hi hw => ?_⟩
  · obtain ⟨hr, hi, r, hrow, -⟩ := (decode_eq_ok_iff w i).1 hd
    rcases hill with hres | hop | hnone
    · exact hres hr
    · have hopcode : i.opcode = w.extractLsb' 0 8 := opcode_of_opcodeRow hrow
      exact opcode_defined i (hopcode ▸ hop)
    · exact hnone i hi (encodingIsUnique w i hd).2
  · exact runCommand_of_ok (hw ▸ decodeInvertsEncode i hi) s

theorem encode_eq_and_decode_eq {i : Instr} {w : Word} (hi : i.wellFormed = true) (hw : encode i = w) :
    encode i = w ∧ decode w = .ok i := ⟨hw, hw ▸ decodeInvertsEncode i hi⟩

/-- Settles O4: the six encodings by computation, their decodings by O1, and the two words that fail a check of R90. -/
theorem encodingExamples : Obligations.EncodingExamples := by
  have hunused : decode 0x00000120 = .error .unusedField := by decide
  have hreserved : decode 0x00080000 = .error .reservedBits := by decide
  exact ⟨encode_eq_and_decode_eq rfl (by decide), encode_eq_and_decode_eq rfl (by decide),
    encode_eq_and_decode_eq rfl (by decide), encode_eq_and_decode_eq rfl (by decide),
    encode_eq_and_decode_eq rfl (by decide), encode_eq_and_decode_eq rfl (by decide),
    runCommand_of_error hunused, runCommand_of_error hreserved⟩

/-! ## Pseudo-instructions -/

/-- The command that a pseudo-instruction runs (R93), where it is one that runs a command. -/
def Pseudo.command : Pseudo → Option Instr
  | .db _ _ | .clrerr => none
  | .bfKey c _ _ => some (.bfKey c)
  | .tfKey c _ _ => some (.tfKey c)
  | .cbcInit c _ => some (.cbcInit c false)
  | .cbcInit0 c => some (.cbcInit c true)
  | .cfbInit c _ => some (.cfbInit c false)
  | .cfbInit0 c => some (.cfbInit c true)
  | .ctxClear c => some (.ctxClear c)
  | .bfWeak c => some (.bfWeakchk c)
  | .ecbEnc c _ _ _ => some (.ecbEnc c)
  | .ecbDec c _ _ _ => some (.ecbDec c)
  | .cbcEnc c _ _ _ => some (.cbcEnc c)
  | .cbcDec c _ _ _ => some (.cbcDec c)
  | .cfbEnc c _ _ _ => some (.cfbEnc c)
  | .cfbDec c _ _ _ => some (.cfbDec c)
  | .sha256 _ _ _ | .genrandhash _ _ => some .sha256
  | .kdf _ _ _ _ _ _ => some .kdf
  | .hmacInit h _ _ => some (.hmacInit h)
  | .hmacUpdate h _ _ => some (.hmacUpdate h)
  | .hmacDigest h _ => some (.hmacDigest h)
  | .hctxClear h => some (.hctxClear h)
  | .blkPad v u _ _ _ => some (.blkPad v u.isSome (u.getD 0))
  | .fieldEnc v u _ _ _ _ _ => some (.fieldEnc v u.isSome (u.getD 0))
  | .fieldDec v u _ _ _ => some (.fieldDec v u.isSome (u.getD 0))
  | .fieldCount v _ => some (.fieldCount v)
  | .fieldTerm v _ => some (.fieldTerm v)
  | .rngBytes _ _ => some .rngBytes
  | .rngByte => some .rngByte
  | .rngInt => some .rngInt
  | .rngLong => some .rngLong
  | .rngBound _ => some .rngBound
  | .rngSeed _ _ => some .rngSeed
  | .rngCycle _ => some .rngCycle

/-- The register and the value of a `wr` statement (R92). -/
def Stmt.regWrite? : Stmt → Option (Reg × Word)
  | .wr r x => some (r, x)
  | _ => none

/-- The `wr` statements of a pseudo-instruction, in order (R93). -/
def Pseudo.regWrites (p : Pseudo) : List (Reg × Word) := p.expand.filterMap Stmt.regWrite?

theorem Pseudo.exists_command {p : Pseudo} (hdb : ∀ a b, p ≠ .db a b) (hclr : p ≠ .clrerr) : ∃ i, p.command = some i := by
  cases p
  case db a b => exact absurd rfl (hdb a b)
  case clrerr => exact absurd rfl hclr
  all_goals exact ⟨_, rfl⟩

theorem hmacFieldsOk_isSome_getD (u : Option CtxIx) : hmacFieldsOk u.isSome (u.getD 0) = true := by cases u <;> rfl

theorem Pseudo.command_wellFormed {p : Pseudo} {i : Instr} (h : p.command = some i) : i.wellFormed = true := by
  cases p <;> cases h
  case blkPad v u _ _ _ => exact hmacFieldsOk_isSome_getD u
  case fieldEnc v u _ _ _ _ _ => exact hmacFieldsOk_isSome_getD u
  case fieldDec v u _ _ _ => exact hmacFieldsOk_isSome_getD u
  all_goals rfl

/-- R93: the accesses of a pseudo-instruction that runs a command are its register writes and then that of the word. -/
theorem Pseudo.expand_ops {p : Pseudo} {i : Instr} (h : p.command = some i) :
    p.expand.map Stmt.op =
      p.regWrites.map (fun w => .writeReg .w32 w.1.offset w.2) ++ [.writeReg .w32 0x00 (encode i)] := by
  cases p <;> cases h <;> rfl

/-- R93, R89: the registers that a pseudo-instruction writes are those that its command reads. -/
theorem Pseudo.regWrites_regs {p : Pseudo} {i : Instr} (h : p.command = some i) :
    p.regWrites.map Prod.fst = operandsRead i := by
  cases p <;> cases h <;> rfl

/-- The registers of the column "operand registers read" of R89 are operand registers (R21). -/
theorem operandsRead_subset (i : Instr) : operandsRead i ⊆ [.src, .dst, .len, .arg0, .arg1, .arg2] := by
  cases i
  case cbcInit c z | cfbInit c z => cases z <;> simp [operandsRead]
  all_goals simp [operandsRead]

/-- Settles O14: the writes before the command word are to the registers that the command reads, and to no other. -/
theorem pseudoInstructionsWriteTheirOperands : Obligations.PseudoInstructionsWriteTheirOperands := by
  intro p hdb hclr
  obtain ⟨i, hi⟩ := p.exists_command hdb hclr
  have hregs := Pseudo.regWrites_regs hi
  refine ⟨p.regWrites, i, Pseudo.expand_ops hi, decodeInvertsEncode i (Pseudo.command_wellFormed hi),
    fun w hw => ?_, fun r hr => ?_⟩
  · exact operandsRead_subset i (hregs ▸ List.mem_map_of_mem hw)
  · obtain ⟨⟨_, x⟩, hx, rfl⟩ := List.mem_map.1 (hregs ▸ hr)
    exact ⟨x, hx⟩

end Sys2Proof.Machine
end

section
/-! # Bytes and words of the ciphers

The little-endian layout read from the side of the bytes (R10, R114, R148), and the two operations that the rounds of
the ciphers undo: an XOR with the same word, and a rotation by one bit (R146, R147). -/

namespace Sys2Proof.Machine

@[simp] theorem xor_xor_cancel (x p : Word) : x ^^^ p ^^^ p = x := by
  rw [BitVec.xor_assoc, BitVec.xor_self, BitVec.xor_zero]

@[simp] theorem rotateLeft_rotateRight_one (x : Word) : (x.rotateRight 1).rotateLeft 1 = x := by
  refine BitVec.eq_of_getLsbD_eq fun i hi => ?_
  simp only [BitVec.getLsbD_rotateLeft, BitVec.getLsbD_rotateRight]
  grind

@[simp] theorem rotateRight_rotateLeft_one (x : Word) : (x.rotateLeft 1).rotateRight 1 = x := by
  refine BitVec.eq_of_getLsbD_eq fun i hi => ?_
  simp only [BitVec.getLsbD_rotateLeft, BitVec.getLsbD_rotateRight]
  grind

/-- Byte `i` of a word read little-endian (R10). -/
theorem extractLsb'_le32 (b : List Byte) {i : Nat} (hi : i < 4) : (le32 b).extractLsb' (8 * i) 8 = b.getD i 0 := by
  refine BitVec.eq_of_getLsbD_eq fun j hj => ?_
  simp only [le32, BitVec.getLsbD_extractLsb', BitVec.getLsbD_append]
  obtain rfl | rfl | rfl | rfl : i = 0 ∨ i = 1 ∨ i = 2 ∨ i = 3 := by omega
  all_goals grind

/-- Four bytes are the layout of the word that they stand for (R10). -/
theorem LE32_le32 {b : List Byte} (h : b.length = 4) : LE32 (le32 b) = b := by
  calc LE32 (le32 b) = (List.range 4).map fun i => (le32 b).extractLsb' (8 * i) 8 := rfl
    _ = (List.range 4).map fun i => b.getD i 0 :=
      List.map_congr_left fun i hi => extractLsb'_le32 b (List.mem_range.1 hi)
    _ = b := by
      obtain ⟨b0, b1, b2, b3, rfl⟩ := List.length_eq_four.1 h
      rfl

end Sys2Proof.Machine
end

section
/-! # Blowfish

Its two commands, BF_KEY and BF_WEAKCHK (R116, R117), and decryption as the inverse of encryption (R113, R114, R118). -/

namespace Sys2Proof.Machine

/-! ## Commands -/

/-- Settles O30: every check of R116 is passed, so the context takes its keyed value. -/
theorem bfKeyEffect : Obligations.BfKeyEffect := by
  intro s c k hl hc hmin hmax hsrc hk
  have hx : s.ctx[c.toNat]? = some s.ctx[c.toNat] := List.getElem?_eq_getElem hc
  calc exec (.bfKey c) s = execBfKey c s := rfl
    _ = succeed (s.setCtx c (CipherCtx.keyedBf k)) := by
      simp [execBfKey, hl, hx, hk, hmin, hmax, hsrc, Config.bfKeyMax]

section
variable {s : State} {c : CtxIx} {x : CipherCtx} (hl : s.stfail = false) (hx : s.ctx[c.toNat]? = some x)
include hl hx

theorem exec_bfWeakchk_of_unkeyed (hk : x.alg = .none) : exec (.bfWeakchk c) s = raise .notKeyed s := by
  change execBfWeakchk c s = _
  simp [execBfWeakchk, hl, hx, hk]

theorem exec_bfWeakchk_of_tf (hk : x.alg = .tf) : exec (.bfWeakchk c) s = raise .modeMismatch s := by
  change execBfWeakchk c s = _
  simp [execBfWeakchk, hl, hx, hk]

theorem exec_bfWeakchk_of_bf (hk : x.alg = .bf) :
    exec (.bfWeakchk c) s = succeed (s.setResult0 (if x.bf.Weak then 1 else 0)) := by
  change execBfWeakchk c s = _
  simp only [execBfWeakchk, unlocked_of_passed hl, withCtx_of_some hx, hk]

end

theorem State.setResult0_okStatus_frame (s : State) (w : Word) :
    { (s.setResult0 w).okStatus with result0 := s.result0 } = { s with errcode := .ok } := rfl

/-- Settles O33: on an unkeyed or a Twofish context an error, and on a Blowfish context the test of its S-boxes. -/
theorem bfWeakchkEffect : Obligations.BfWeakchkEffect := by
  intro s c x hl hx
  refine ⟨exec_bfWeakchk_of_unkeyed hl hx, exec_bfWeakchk_of_tf hl hx, fun hk => ?_⟩
  refine ⟨_, exec_bfWeakchk_of_bf hl hx hk, State.setResult0_okStatus_frame s _, fun hweak => ?_, fun hstrong => ?_⟩
  · rw [State.okStatus_result0, State.setResult0_result0, if_pos hweak]
  · have hnot : ¬x.bf.Weak := fun ⟨b, i, j, hij, heq⟩ => hstrong b i j hij heq
    rw [State.okStatus_result0, State.setResult0_result0, if_neg hnot]

/-! ## The primitive -/

/-- The last swap undone and the two halves whitened: how R113 ends both directions. -/
def bfFinish (q p : Word) (b : Word × Word) : Word × Word := (b.2 ^^^ q, b.1 ^^^ p)

theorem bfCoreEnc_eq (t : BfSched) (b : Word × Word) :
    bfCoreEnc t b = bfFinish (t.p 17) (t.p 16) (bfRounds t t.p 16 b) := rfl

theorem bfCoreDec_eq (t : BfSched) (b : Word × Word) :
    bfCoreDec t b = bfFinish (t.p 0) (t.p 1) (bfRounds t (fun i => t.p (17 - i)) 16 b) := rfl

/-- A round takes off the whitening of the left half and, with it, the round before. -/
theorem bfRound_bfFinish_bfRound (t : BfSched) (r q p : Word) (b : Word × Word) :
    bfRound t r (bfFinish r q (bfRound t p b)) = bfFinish q p b := by
  have hleft (x f : Word) : x ^^^ f ^^^ q ^^^ f = x ^^^ q := by
    rw [BitVec.xor_assoc x, BitVec.xor_comm f, ← BitVec.xor_assoc, xor_xor_cancel]
  simp only [bfRound, bfFinish, xor_xor_cancel, hleft]

/-- After `n` rounds of decryption the last `n` rounds of encryption are gone. -/
theorem bfRounds_bfCoreEnc (t : BfSched) (b : Word × Word) {n a : Nat} (h : a + n = 16) :
    bfRounds t (fun i => t.p (17 - i)) n (bfCoreEnc t b) = bfFinish (t.p (a + 1)) (t.p a) (bfRounds t t.p a b) := by
  induction n generalizing a with
  | zero =>
    obtain rfl : a = 16 := h
    exact bfCoreEnc_eq t b
  | succ n ih =>
    have hkey : 17 - n = a + 2 := by omega
    simp only [bfRounds, ih (a := a + 1) (by omega), hkey]
    exact bfRound_bfFinish_bfRound ..

/-- R113, R118: on words, decryption inverts encryption. -/
theorem bfCoreDec_bfCoreEnc (t : BfSched) (b : Word × Word) : bfCoreDec t (bfCoreEnc t b) = b := by
  have hrounds : bfRounds t (fun i => t.p (17 - i)) 16 (bfCoreEnc t b) = bfFinish (t.p 1) (t.p 0) b :=
    bfRounds_bfCoreEnc t b rfl
  rw [bfCoreDec_eq, hrounds]
  simp only [bfFinish, xor_xor_cancel]

/-- R114, R118: on bytes, decryption inverts encryption. -/
theorem bfD_bfE (t : BfSched) {b : List Byte} (h : b.length = 8) : bfD t (bfE t b) = b := by
  have hwords (r : Word × Word) :
      (le32 ((LE32 r.1 ++ LE32 r.2).take 4), le32 ((LE32 r.1 ++ LE32 r.2).drop 4)) = r := by
    rw [List.take_left' (LE32_length _), List.drop_left' (LE32_length _), le32_LE32, le32_LE32]
  rw [bfD, bfE, hwords, bfCoreDec_bfCoreEnc, LE32_le32 (by simp [h]), LE32_le32 (by simp [h]), List.take_append_drop]

end Sys2Proof.Machine
end

section
/-! # Twofish

Decryption as the inverse of encryption (R146 to R148). -/

namespace Sys2Proof.Machine

@[simp] theorem TfBlock.whiten_whiten (t : TfSched) (i : Nat) (R : TfBlock) : (R.whiten t i).whiten t i = R := by
  simp only [TfBlock.whiten, xor_xor_cancel]

@[simp] theorem TfBlock.swapHalves_swapHalves (R : TfBlock) : R.swapHalves.swapHalves = R := rfl

@[simp] theorem TfBlock.ofBytes_toBytes (R : TfBlock) : TfBlock.ofBytes R.toBytes = R := by
  change TfBlock.mk (le32 (LE32 R.r0)) (le32 (LE32 R.r1)) (le32 (LE32 R.r2)) (le32 (LE32 R.r3)) = R
  simp only [le32_LE32]

theorem TfBlock.toBytes_ofBytes {b : List Byte} (h : b.length = 16) : (TfBlock.ofBytes b).toBytes = b := by
  have hword {i : Nat} (hi : i + 4 ≤ 16) : LE32 (le32 (slice b i 4)) = slice b i 4 :=
    LE32_le32 (by rw [slice, List.length_take, List.length_drop]; omega)
  calc (TfBlock.ofBytes b).toBytes
      = slice b 0 4 ++ slice b 4 4 ++ slice b 8 4 ++ slice b 12 4 := by
        simp only [TfBlock.toBytes, TfBlock.ofBytes]
        rw [hword (by decide), hword (by decide), hword (by decide), hword (by decide)]
    _ = (blocks 4 4 b).flatten := by simp [blocks, slice]
    _ = b := by rw [blocks_flatten, List.take_of_length_le (by omega)]

/-- A round of decryption undoes the same round of encryption: both find the same two words for `F` (R146, R147). -/
@[simp] theorem tfUnround_tfRound (t : TfSched) (r : Nat) (R : TfBlock) : tfUnround t r (tfRound t r R) = R := by
  simp only [tfUnround, tfRound, rotateLeft_rotateRight_one, xor_xor_cancel, rotateRight_rotateLeft_one]

theorem tfUnrounds_tfRounds (t : TfSched) (n : Nat) (R : TfBlock) : tfUnrounds t n (tfRounds t n R) = R := by
  induction n with
  | zero => rfl
  | succ n ih => simp only [tfUnrounds, tfRounds, tfUnround_tfRound, ih]

/-- R147: decryption inverts encryption. -/
theorem tfD_tfE (t : TfSched) {b : List Byte} (h : b.length = 16) : tfD t (tfE t b) = b := by
  simp only [tfD, tfE, TfBlock.ofBytes_toBytes, TfBlock.whiten_whiten, TfBlock.swapHalves_swapHalves,
    tfUnrounds_tfRounds, TfBlock.toBytes_ofBytes h]

/-- Settles O54: round by round for each primitive, and for bytes through the little-endian layout. -/
theorem primitivesInvert : Obligations.PrimitivesInvert :=
  ⟨bfCoreDec_bfCoreEnc, fun t _ h => bfD_bfE t h, fun t _ h => tfD_tfE t h⟩

end Sys2Proof.Machine
end

section
/-! # Twofish keys and the permutations q0 and q1

The command TF_KEY (R149, R150), and q0 and q1 as permutations of the bytes (R141, R153): each of the steps that build
them can be undone. -/

namespace Sys2Proof.Machine

/-! ## The command -/

/-- The check of R149 on the number of bytes read from DMEM is the check on LEN. -/
theorem tfPadKey_eq_of_readBytes {s : State} {m : List Byte} (hm : s.mem.readBytes s.src.toNat s.len.toNat = some m)
    (rule : Tf64Rule) : tfPadKey rule m = if s.len = 8 ∧ rule = .pad128 then m ++ zeros 8 else m := by
  have hlen : m.length = 8 ↔ s.len = 8 := by
    rw [Memory.readBytes_length hm]
    exact BitVec.toNat_inj (y := 8)
  simp only [tfPadKey, hlen]

/-- Settles O31: every check of R150 is passed, so the context takes its keyed value. -/
theorem tfKeyEffect : Obligations.TfKeyEffect := by
  intro s c m hl hc hlen hsrc hm
  have hx : s.ctx[c.toNat]? = some s.ctx[c.toNat] := List.getElem?_eq_getElem hc
  have hlens : s.len.toNat ∈ Config.tfKeyLens := by
    rcases hlen with h | h | h | h <;> simp [h, Config.tfKeyLens]
  rw [← tfPadKey_eq_of_readBytes hm]
  calc exec (.tfKey c) s = execTfKey c s := rfl
    _ = succeed (s.setCtx c (CipherCtx.keyedTf s.par.tf64 m)) := by simp [execTfKey, hl, hx, hm, hlens, hsrc]

/-! ## The steps of R141 -/

/-- The inverse of `qMix`. The second mixed nibble, XORed with the first one rotated, is the Gray code `a XOR (a >> 1)` of
the first nibble before the mixing, and the shifted sums decode it. -/
def qUnmix (ab : BitVec 4 × BitVec 4) : BitVec 4 × BitVec 4 :=
  let gray := ab.2 ^^^ ab.1.rotateRight 1
  let a := gray ^^^ gray >>> 1 ^^^ gray >>> 2 ^^^ gray >>> 3
  (a, ab.1 ^^^ a)

theorem qUnmix_qMix (a b : BitVec 4) : qUnmix (qMix (a, b)) = (a, b) := by
  revert a b
  decide

theorem qMix_injective : Function.Injective qMix :=
  Function.LeftInverse.injective (g := qUnmix) fun ab => qUnmix_qMix ab.1 ab.2

/-- The table lists every nibble once. -/
structure IsNibblePerm (l : List (BitVec 4)) : Prop where
  length : l.length = 16
  nodup : l.Nodup

theorem IsNibblePerm.eq_of_getD {l : List (BitVec 4)} (hl : IsNibblePerm l) {a b : BitVec 4}
    (h : l.getD a.toNat 0 = l.getD b.toNat 0) : a = b := by
  have hin (x : BitVec 4) : x.toNat < l.length := hl.length ▸ x.isLt
  rw [List.getD_eq_getElem _ _ (hin a), List.getD_eq_getElem _ _ (hin b)] at h
  exact BitVec.eq_of_toNat_eq ((hl.nodup.getElem_inj_iff).1 h)

theorem nibbles_eq_of_append_eq {a b c d : BitVec 4} (h : a ++ b = c ++ d) : a = c ∧ b = d := by
  have hhi := congrArg (BitVec.extractLsb' 4 4) h
  have hlo := congrArg (BitVec.extractLsb' 0 4) h
  rw [BitVec.extractLsb'_append_eq_left, BitVec.extractLsb'_append_eq_left] at hhi
  rw [BitVec.extractLsb'_append_eq_right, BitVec.extractLsb'_append_eq_right] at hlo
  exact ⟨hhi, hlo⟩

theorem eq_of_nibbles_eq {x y : Byte} (hhi : x.extractLsb' 4 4 = y.extractLsb' 4 4)
    (hlo : x.extractLsb' 0 4 = y.extractLsb' 0 4) : x = y := by
  have hjoin (z : Byte) : z.extractLsb' 4 4 ++ z.extractLsb' 0 4 = z :=
    (BitVec.extractLsb'_append_extractLsb'_eq_extractLsb' rfl).trans BitVec.extractLsb'_eq_self
  rw [← hjoin x, ← hjoin y, hhi, hlo]

/-! ## The permutations -/

structure QTables.ArePerms (t : QTables) : Prop where
  t0 : IsNibblePerm t.t0
  t1 : IsNibblePerm t.t1
  t2 : IsNibblePerm t.t2
  t3 : IsNibblePerm t.t3

theorem q0Tables_arePerms : q0Tables.ArePerms where
  t0 := ⟨rfl, by decide⟩
  t1 := ⟨rfl, by decide⟩
  t2 := ⟨rfl, by decide⟩
  t3 := ⟨rfl, by decide⟩

theorem q1Tables_arePerms : q1Tables.ArePerms where
  t0 := ⟨rfl, by decide⟩
  t1 := ⟨rfl, by decide⟩
  t2 := ⟨rfl, by decide⟩
  t3 := ⟨rfl, by decide⟩

/-- R141 read backwards, from the output to the input: the last two tables, a mixing, the first two tables, a mixing. -/
theorem qPerm_injective {t : QTables} (ht : t.ArePerms) : Function.Injective (qPerm t) := by
  intro x y h
  obtain ⟨h3, h2⟩ := nibbles_eq_of_append_eq h
  have houter := qMix_injective (Prod.ext (ht.t2.eq_of_getD h2) (ht.t3.eq_of_getD h3))
  obtain ⟨h0, h1⟩ := Prod.mk.inj houter
  have hinner := qMix_injective (Prod.ext (ht.t0.eq_of_getD h0) (ht.t1.eq_of_getD h1))
  obtain ⟨hhi, hlo⟩ := Prod.mk.inj hinner
  exact eq_of_nibbles_eq hhi hlo

/-- Settles O55: the sampled entries by evaluation, and injectivity from the tables of R141. -/
theorem qPermutations : Obligations.QPermutations :=
  ⟨by decide, by decide, fun _ _ h => qPerm_injective q0Tables_arePerms h,
    fun _ _ h => qPerm_injective q1Tables_arePerms h⟩

end Sys2Proof.Machine
end

section
/-! # Blocks and chained passes

A byte string that holds whole blocks, as the list of its blocks; and the four passes of R176 to R179 as one pass, which
is told how an output block and the next vector come from the vector and the input block. -/

namespace Sys2Proof.Machine

/-! ## Whole blocks -/

/-- Cutting after whole blocks gives these blocks, and then the blocks of the rest. -/
theorem blocks_flatten_append {n : Nat} {bs : List (List Byte)} (hb : ∀ b ∈ bs, b.length = n) (k : Nat) (q : List Byte) :
    blocks n (bs.length + k) (bs.flatten ++ q) = bs ++ blocks n k q := by
  induction bs with
  | nil => simp
  | cons b bs ih =>
    obtain ⟨hn, hb⟩ := List.forall_mem_cons.1 hb
    rw [List.length_cons, Nat.add_right_comm, blocks, List.flatten_cons, List.append_assoc, List.take_left' hn,
      List.drop_left' hn, ih hb, List.cons_append]

/-- Block `i` of a string of whole blocks. -/
theorem slice_flatten {n i : Nat} {bs : List (List Byte)} (hb : ∀ b ∈ bs, b.length = n) (hi : i < bs.length) :
    slice bs.flatten (i * n) n = bs[i] := by
  induction bs generalizing i with
  | nil => cases hi
  | cons b bs ih =>
    obtain ⟨hn, hb⟩ := List.forall_mem_cons.1 hb
    cases i with
    | zero => simp [slice, ← hn]
    | succ i =>
      have hdrop : (b ++ bs.flatten).drop ((i + 1) * n) = bs.flatten.drop (i * n) := by
        rw [Nat.succ_mul, Nat.add_comm, ← List.drop_drop, List.drop_left' hn]
      rw [slice, List.flatten_cons, hdrop]
      exact ih hb (Nat.lt_of_succ_lt_succ hi)

/-- The block before block `i`, or the vector before the first, in a string of whole blocks. -/
theorem chainPrev_flatten {n i : Nat} {bs : List (List Byte)} (hb : ∀ b ∈ bs, b.length = n) (v : List Byte)
    (hi : i < (v :: bs).length) : chainPrev v bs.flatten n i = (v :: bs)[i] := by
  cases i with
  | zero => rfl
  | succ i => exact slice_flatten hb (Nat.lt_of_succ_lt_succ hi)

theorem CipherCtx.split_flatten {x : CipherCtx} {p : List Byte} (hp : p.length % x.bs = 0) : (x.split p).flatten = p := by
  rw [CipherCtx.split, blocks_flatten, Nat.div_mul_cancel (Nat.dvd_of_mod_eq_zero hp), List.take_length]

theorem CipherCtx.split_append {x : CipherCtx} {p : List Byte} (hp : p.length % x.bs = 0) (q : List Byte) :
    x.split (p ++ q) = x.split p ++ x.split q := by
  have hcount : (p ++ q).length / x.bs = (x.split p).length + q.length / x.bs := by
    rw [List.length_append, Nat.add_div_of_dvd_right (Nat.dvd_of_mod_eq_zero hp), CipherCtx.split_length]
  have hcut := blocks_flatten_append (bs := x.split p) (fun _ => CipherCtx.length_of_mem_split) (q.length / x.bs) q
  rwa [CipherCtx.split_flatten hp, ← hcount] at hcut

theorem CipherCtx.split_of_flatten {x : CipherCtx} {bs : List (List Byte)} (hx : 0 < x.bs)
    (hb : ∀ b ∈ bs, b.length = x.bs) : x.split bs.flatten = bs := by
  have hcut := blocks_flatten_append hb 0 []
  rwa [List.append_nil, blocks, List.append_nil, Nat.add_zero, ← Nat.mul_div_cancel bs.length hx,
    ← length_flatten_of_forall hb] at hcut

/-! ## One pass for the four modes -/

/-- A pass from the vector `v`: `f` gives the output block and `g` the next vector. -/
def chainPass (f g : List Byte → List Byte → List Byte) : List Byte → List (List Byte) → List (List Byte) × List Byte
  | v, [] => ([], v)
  | v, p :: ps => (f v p :: (chainPass f g (g v p) ps).1, (chainPass f g (g v p) ps).2)

/-- An encrypting pass chains on its output, the ciphertext (R176, R178). -/
def encPass (f : List Byte → List Byte → List Byte) : List Byte → List (List Byte) → List (List Byte) × List Byte :=
  chainPass f f

/-- A decrypting pass chains on its input, the ciphertext (R177, R179). -/
def decPass (f : List Byte → List Byte → List Byte) : List Byte → List (List Byte) → List (List Byte) × List Byte :=
  chainPass f fun _ c => c

/-- A ciphertext block of CBC, from the one before it (R176). -/
def cbcEncBlock (E : List Byte → List Byte) (v p : List Byte) : List Byte := E (xorBytes p v)

/-- A plaintext block of CBC, from the ciphertext block before it (R177). -/
def cbcDecBlock (D : List Byte → List Byte) (v c : List Byte) : List Byte := xorBytes (D c) v

/-- A block of CFB in either direction, from the ciphertext block before it (R178, R179). -/
def cfbBlock (E : List Byte → List Byte) (v b : List Byte) : List Byte := xorBytes b (E v)

section
variable (F : List Byte → List Byte) (v : List Byte) (ps : List (List Byte))

theorem cbcEncBlocks_eq_encPass : cbcEncBlocks F v ps = encPass (cbcEncBlock F) v ps := by
  induction ps generalizing v with
  | nil => rfl
  | cons p ps ih => simp only [cbcEncBlocks, ih, encPass, chainPass, cbcEncBlock]

theorem cbcDecBlocks_eq_decPass : cbcDecBlocks F v ps = decPass (cbcDecBlock F) v ps := by
  induction ps generalizing v with
  | nil => rfl
  | cons p ps ih => simp only [cbcDecBlocks, ih, decPass, chainPass, cbcDecBlock]

theorem cfbEncBlocks_eq_encPass : cfbEncBlocks F v ps = encPass (cfbBlock F) v ps := by
  induction ps generalizing v with
  | nil => rfl
  | cons p ps ih => simp only [cfbEncBlocks, ih, encPass, chainPass, cfbBlock]

theorem cfbDecBlocks_eq_decPass : cfbDecBlocks F v ps = decPass (cfbBlock F) v ps := by
  induction ps generalizing v with
  | nil => rfl
  | cons p ps ih => simp only [cfbDecBlocks, ih, decPass, chainPass, cfbBlock]

end

/-- R180: a pass over two pieces hands its vector from the one to the other. -/
theorem chainPass_append (f g : List Byte → List Byte → List Byte) (v : List Byte) (ps qs : List (List Byte)) :
    chainPass f g v (ps ++ qs) = ((chainPass f g v ps).1 ++ (chainPass f g (chainPass f g v ps).2 qs).1,
      (chainPass f g (chainPass f g v ps).2 qs).2) := by
  induction ps generalizing v with
  | nil => rfl
  | cons p ps ih => simp only [List.cons_append, chainPass, ih]

/-- Settles O58: all four modes are one pass, and whole blocks are cut off one by one. -/
theorem splitChaining : Obligations.SplitChaining := by
  refine ⟨fun E v ps qs => ?_, fun x p q _ hp => CipherCtx.split_append hp q⟩
  simp only [cbcEncBlocks_eq_encPass, cbcDecBlocks_eq_decPass, cfbEncBlocks_eq_encPass, cfbDecBlocks_eq_decPass]
  exact ⟨chainPass_append .., chainPass_append .., chainPass_append .., chainPass_append ..⟩

/-- The output `r` of a pass from the vector `v` over `ps`, block by block: each output block comes by `f` from its input
block and the block before it in the ciphertext `cs`, and the vector is the last block of the ciphertext. -/
structure ChainedOn (f : List Byte → List Byte → List Byte) (cs : List (List Byte)) (v : List Byte)
    (ps : List (List Byte)) (r : List (List Byte) × List Byte) : Prop where
  blocks : r.1 = List.zipWith f (v :: cs) ps
  vector : r.2 = (v :: cs)[cs.length]

theorem encPass_chainedOn (f : List Byte → List Byte → List Byte) (v : List Byte) (ps : List (List Byte)) :
    ChainedOn f (encPass f v ps).1 v ps (encPass f v ps) := by
  induction ps generalizing v with
  | nil => exact ⟨rfl, rfl⟩
  | cons p ps ih => exact ⟨congrArg (f v p :: ·) (ih (f v p)).blocks, (ih (f v p)).vector⟩

theorem decPass_chainedOn (f : List Byte → List Byte → List Byte) (v : List Byte) (cs : List (List Byte)) :
    ChainedOn f cs v cs (decPass f v cs) := by
  induction cs generalizing v with
  | nil => exact ⟨rfl, rfl⟩
  | cons c cs ih => exact ⟨congrArg (f v c :: ·) (ih c).blocks, (ih c).vector⟩

/-- Where `g` undoes `f` block by block, the decrypting pass of `g` undoes the encrypting pass of `f` (R182). -/
theorem decPass_encPass {f g : List Byte → List Byte → List Byte} {n : Nat}
    (hf : ∀ v p, v.length = n → p.length = n → (f v p).length = n)
    (hg : ∀ v p, v.length = n → p.length = n → g v (f v p) = p) {v : List Byte} (hv : v.length = n)
    {ps : List (List Byte)} (hps : ∀ p ∈ ps, p.length = n) : (decPass g v (encPass f v ps).1).1 = ps := by
  induction ps generalizing v with
  | nil => rfl
  | cons p ps ih =>
    obtain ⟨hp, hps⟩ := List.forall_mem_cons.1 hps
    exact congr (congrArg List.cons (hg v p hv hp)) (ih (hf v p hv hp) hps)

end Sys2Proof.Machine
end

section
/-! # The data checks

What the checks of R173 come to when they pass and when only the direction fails, what a success says of them, and the
blocks of SRC once they have passed. -/

namespace Sys2Proof.Machine

section
variable {s t : State} {c : CtxIx} {mode : Chain} {d : Dir} {x : CipherCtx} {p : List Byte}
  {k : CipherCtx → List Byte → Res}

/-- Where the checks up to the bounds pass, mode and direction are checked next, and then SRC is read. -/
theorem dataChecks_of_inBounds (hl : s.stfail = false) (hx : s.ctx[c.toNat]? = some x) (hk : x.alg ≠ .none)
    (h0 : s.len ≠ 0) (hmul : s.len.toNat % x.bs = 0) (hsrc : s.inBounds s.src s.len.toNat)
    (hdst : s.inBounds s.dst s.len.toNat) : dataChecks c mode d s k =
      if mode ≠ .none ∧ x.chain ≠ mode then raise .modeMismatch s
      else if mode ≠ .none ∧ x.dir ≠ .unset ∧ x.dir ≠ d then raise .directionMismatch s
      else withBytes s s.src.toNat s.len.toNat fun p => k x p := by
  have hlen : ¬(s.len.toNat = 0 ∨ s.len.toNat % x.bs ≠ 0) :=
    not_or.2 ⟨fun h => h0 (BitVec.eq_of_toNat_eq h), not_not.2 hmul⟩
  unfold dataChecks
  rw [unlocked_of_passed hl, withCtx_of_some hx, if_neg hk, if_neg hlen, if_neg (not_not.2 hsrc), if_neg (not_not.2 hdst)]

theorem dataChecks_of_ready (h : DataReady s c x p) (hm : mode = .none ∨ x.chain = mode)
    (hd : mode = .none ∨ x.dir = .unset ∨ x.dir = d) : dataChecks c mode d s k = k x p := by
  obtain ⟨hl, hx, -, hk, h0, hmul, hsrc, hdst, hp⟩ := h
  rw [dataChecks_of_inBounds hl hx hk h0 hmul hsrc hdst, if_neg (by tauto), if_neg (by tauto), withBytes_of_some hp]

/-- R181: on a context that is locked in the other direction, the direction is the first check to fail once those before
it pass. -/
theorem dataChecks_of_otherDir (hl : s.stfail = false) (hx : s.ctx[c.toNat]? = some x) (hk : x.alg ≠ .none)
    (h0 : s.len ≠ 0) (hmul : s.len.toNat % x.bs = 0) (hsrc : s.inBounds s.src s.len.toNat)
    (hdst : s.inBounds s.dst s.len.toNat) (hmode : mode ≠ .none) (hm : x.chain = mode)
    (hd : x.dir ≠ .unset ∧ x.dir ≠ d) : dataChecks c mode d s k = raise .directionMismatch s := by
  rw [dataChecks_of_inBounds hl hx hk h0 hmul hsrc hdst, if_neg fun h => h.2 hm, if_pos ⟨hmode, hd⟩]

/-- A data command that succeeds has passed its checks. -/
theorem dataChecks_success (h : dataChecks c mode d s k = .next t) (ht : t.errcode = .ok)
    (hx : s.ctx[c.toNat]? = some x) : ∃ p, DataPassed s c mode d x p ∧ k x p = .next t := by
  rcases dataChecks_eq_next h with ⟨e, he, rfl⟩ | ⟨y, p, -, hy, hk, -, hl, -, ho, hm, hd, hp, h⟩
  · exact absurd ht he
  · obtain rfl : x = y := Option.some.inj (hx.symm.trans hy)
    exact ⟨p, ⟨hx, hk, hl, ho, hm, hd, hp⟩, h⟩

theorem CipherCtx.bs_pos (hx : x.Ok) : 0 < x.bs := by
  rw [hx.bs_eq]
  cases x.alg <;> decide

end

end Sys2Proof.Machine

open Sys2Proof Sys2Proof.Machine

namespace DataReady

variable {s : State} {c : CtxIx} {mode : Chain} {d : Dir} {x : CipherCtx} {p : List Byte}

theorem passed (h : DataReady s c x p) (hm : mode = .none ∨ x.chain = mode)
    (hd : mode = .none ∨ x.dir = .unset ∨ x.dir = d) : DataPassed s c mode d x p :=
  ⟨h.ctx, h.keyed, h.len_mult, h.dst_in, hm, hd, h.bytes⟩

theorem split_flatten (h : DataReady s c x p) : (x.split p).flatten = p :=
  CipherCtx.split_flatten (Memory.readBytes_length h.bytes ▸ h.len_mult)

theorem split_length (h : DataReady s c x p) : (x.split p).length = s.len.toNat / x.bs := by
  rw [CipherCtx.split_length, Memory.readBytes_length h.bytes]

/-- Block `i` of the bytes of SRC. -/
theorem slice_eq (h : DataReady s c x p) {i : Nat} (hi : i < (x.split p).length) :
    slice p (i * x.bs) x.bs = (x.split p)[i] := by
  have hb := slice_flatten (bs := x.split p) (fun _ => CipherCtx.length_of_mem_split) hi
  rwa [h.split_flatten] at hb

/-- What ECB with the block function `F` writes: one block for each block of SRC (R174, R175). -/
theorem ecb_output (h : DataReady s c x p) {F : List Byte → List Byte} (hF : ∀ b, (F b).length = x.bs) :
    ((x.split p).map F).flatten.length = s.len.toNat ∧
      ∀ i, i < s.len.toNat / x.bs → slice ((x.split p).map F).flatten (i * x.bs) x.bs = F (slice p (i * x.bs) x.bs) := by
  refine ⟨(h.passed (.inl rfl) (.inl rfl) : DataPassed s c .none .enc x p).ecb_length hF, fun i hi => ?_⟩
  rw [← h.split_length] at hi
  rw [slice_flatten (List.forall_mem_map.2 fun b _ => hF b) (by simpa using hi), List.getElem_map, h.slice_eq hi]

end DataReady
end

section
/-! # The data commands

ECB, CBC and CFB as commands (R173 to R179): how they complete, the direction lock (R181), and decryption as the inverse
of encryption (R182). -/

namespace Sys2Proof.Machine

/-! ## ECB -/

/-- Settles O34: both commands are one write of ciphered blocks. -/
theorem ecbEffect : Obligations.EcbEffect := by
  intro s c x p h
  obtain ⟨hle, hbe⟩ := h.ecb_output (CipherCtx.blockEnc_length h.ok h.keyed)
  obtain ⟨hld, hbd⟩ := h.ecb_output (CipherCtx.blockDec_length h.ok h.keyed)
  exact ⟨⟨_, _, dataChecks_of_ready h (.inl rfl) (.inl rfl), rfl, hle, Memory.writeBytes_spec .., hbe⟩,
    ⟨_, _, dataChecks_of_ready h (.inl rfl) (.inl rfl), rfl, hld, Memory.writeBytes_spec .., hbd⟩⟩

/-! ## CBC and CFB -/

/-- `ChainedOp c i mode d pass`: `i` is the chained data command on context `c` with mode `mode` and direction `d`, and
`pass` is what it computes from the context and the bytes of SRC. -/
inductive ChainedOp (c : CtxIx) :
    Instr → Chain → Dir → (CipherCtx → List Byte → List (List Byte) × List Byte) → Prop where
  | cbcEnc : ChainedOp c (.cbcEnc c) .cbc .enc fun x p => cbcEncBlocks x.blockEnc x.V (x.split p)
  | cbcDec : ChainedOp c (.cbcDec c) .cbc .dec fun x p => cbcDecBlocks x.blockDec x.V (x.split p)
  | cfbEnc : ChainedOp c (.cfbEnc c) .cfb .enc fun x p => cfbEncBlocks x.blockEnc x.V (x.split p)
  | cfbDec : ChainedOp c (.cfbDec c) .cfb .dec fun x p => cfbDecBlocks x.blockEnc x.V (x.split p)

section
variable {c : CtxIx} {i : Instr} {mode : Chain} {d : Dir} {pass : CipherCtx → List Byte → List (List Byte) × List Byte}
  {s t : State} {x : CipherCtx} {p : List Byte}

theorem ChainedOp.exec_eq (h : ChainedOp c i mode d pass) (s : State) :
    exec i s = dataChecks c mode d s fun x p => chainDone c x d (pass x p) s := by cases h <;> rfl

theorem ChainedOp.mode_ne_none (h : ChainedOp c i mode d pass) : mode ≠ .none := by cases h <;> nofun

theorem ChainedOp.dir_ne_unset (h : ChainedOp c i mode d pass) : d ≠ .unset := by cases h <;> nofun

/-- The output of a chained pass is whole blocks, as many as its input. -/
theorem ChainedOp.whole (h : ChainedOp c i mode d pass) (hx : x.Ok) (hk : x.alg ≠ .none) (p : List Byte) :
    WholePass x.bs (x.split p).length (pass x p) := by
  have hE := CipherCtx.blockEnc_length hx hk
  have hp : ∀ b ∈ x.split p, b.length = x.bs := fun _ => CipherCtx.length_of_mem_split
  cases h with
  | cbcEnc => exact cbcEncBlocks_whole hE hx.vector_length _
  | cbcDec => exact cbcDecBlocks_whole (CipherCtx.blockDec_length hx hk) hx.vector_length hp
  | cfbEnc => exact cfbEncBlocks_whole hE hx.vector_length hp
  | cfbDec => exact cfbDecBlocks_whole hE hx.vector_length hp

/-- How the chained command `i` completes in `t`, having read `p` and written `out` (R176 to R179): each block comes by `f`
from its input block and the block before it in the ciphertext `q`, and the vector is the last block of `q`. -/
def ChainedEffect (i : Instr) (c : CtxIx) (d : Dir) (f : List Byte → List Byte → List Byte) (x : CipherCtx) (s t : State)
    (p q out : List Byte) : Prop :=
  exec i s = .next t ∧ out.length = s.len.toNat ∧ Wrote s t s.dst.toNat out ∧
    { t with mem := s.mem } = { s with
      ctx := s.ctx.set c.toNat { x with V := slice q (s.len.toNat - x.bs) x.bs, dir := d }, errcode := .ok } ∧
    ∀ j, j < s.len.toNat / x.bs → slice out (j * x.bs) x.bs = f (chainPrev x.V q x.bs j) (slice p (j * x.bs) x.bs)

/-- A chained command that passes its checks completes, with `cs` the blocks of the ciphertext. -/
theorem ChainedOp.completes (hop : ChainedOp c i mode d pass) (h : DataReady s c x p) (hm : x.chain = mode)
    (hd : x.dir = .unset ∨ x.dir = d) {f : List Byte → List Byte → List Byte} {cs : List (List Byte)}
    (hf : ChainedOn f cs x.V (x.split p) (pass x p)) (hn : cs.length = (x.split p).length)
    (hb : ∀ b ∈ cs, b.length = x.bs) : ∃ t, ChainedEffect i c d f x s t p cs.flatten (pass x p).1.flatten := by
  have hw := hop.whole h.ok h.keyed p
  have hexec : exec i s = chainDone c x d (pass x p) s :=
    (hop.exec_eq s).trans (dataChecks_of_ready h (.inr hm) (.inr hd))
  have hvec : (pass x p).2 = slice cs.flatten (s.len.toNat - x.bs) x.bs := by
    have hlen : s.len.toNat = cs.length * x.bs := by
      rw [hn, h.split_length, Nat.div_mul_cancel (Nat.dvd_of_mod_eq_zero h.len_mult)]
    have hpos : cs.length ≠ 0 := fun h0 => h.len_pos (BitVec.eq_of_toNat_eq (by simp [hlen, h0]))
    rw [hf.vector, ← chainPrev_flatten hb x.V, chainPrev, if_neg hpos, hlen, Nat.sub_one_mul]
  refine ⟨_, hexec, (h.passed (.inr hm) (.inr hd)).chained_length hw, Memory.writeBytes_spec .., ?_, fun j hj => ?_⟩
  · rw [← hvec]
    rfl
  · rw [← h.split_length] at hj
    have hj' : j < (x.V :: cs).length := by
      rw [List.length_cons, hn]
      omega
    rw [slice_flatten hw.block (hw.count ▸ hj), chainPrev_flatten hb x.V hj', h.slice_eq hj]
    simp only [hf.blocks, List.getElem_zipWith]

/-- An encrypting command: the ciphertext is what it writes (R176, R178). -/
theorem ChainedOp.encrypts (hop : ChainedOp c i mode .enc pass) (h : DataReady s c x p) (hm : x.chain = mode)
    (hd : x.dir = .unset ∨ x.dir = .enc) {f : List Byte → List Byte → List Byte}
    (hf : pass x p = encPass f x.V (x.split p)) : ∃ t out, ChainedEffect i c .enc f x s t p out out := by
  have hw := hop.whole h.ok h.keyed p
  obtain ⟨t, ht⟩ := hop.completes h hm hd (hf ▸ encPass_chainedOn f x.V (x.split p)) hw.count hw.block
  exact ⟨t, _, ht⟩

/-- A decrypting command: the ciphertext is what it reads (R177, R179). -/
theorem ChainedOp.decrypts (hop : ChainedOp c i mode .dec pass) (h : DataReady s c x p) (hm : x.chain = mode)
    (hd : x.dir = .unset ∨ x.dir = .dec) {f : List Byte → List Byte → List Byte}
    (hf : pass x p = decPass f x.V (x.split p)) : ∃ t out, ChainedEffect i c .dec f x s t p p out := by
  obtain ⟨t, ht⟩ := hop.completes h hm hd (hf ▸ decPass_chainedOn f x.V (x.split p)) rfl
    fun _ => CipherCtx.length_of_mem_split
  rw [h.split_flatten] at ht
  exact ⟨t, _, ht⟩

end

/-- Settles O35: CBC encryption is a pass that chains on its output. -/
theorem cbcEncEffect : Obligations.CbcEncEffect := fun _ _ _ _ h hm hd =>
  ChainedOp.cbcEnc.encrypts h hm hd (cbcEncBlocks_eq_encPass ..)

/-- Settles O36: CBC decryption is a pass that chains on its input. -/
theorem cbcDecEffect : Obligations.CbcDecEffect := fun _ _ _ _ h hm hd =>
  ChainedOp.cbcDec.decrypts h hm hd (cbcDecBlocks_eq_decPass ..)

/-- Settles O37: CFB encryption is a pass that chains on its output. -/
theorem cfbEncEffect : Obligations.CfbEncEffect := fun _ _ _ _ h hm hd =>
  ChainedOp.cfbEnc.encrypts h hm hd (cfbEncBlocks_eq_encPass ..)

/-- Settles O38: CFB decryption is a pass that chains on its input. -/
theorem cfbDecEffect : Obligations.CfbDecEffect := fun _ _ _ _ h hm hd =>
  ChainedOp.cfbDec.decrypts h hm hd (cfbDecBlocks_eq_decPass ..)

/-! ## The direction lock -/

section
variable {c : CtxIx} {i : Instr} {mode : Chain} {d : Dir} {pass : CipherCtx → List Byte → List (List Byte) × List Byte}
  {s t : State} {x : CipherCtx}

/-- A chained command that succeeds leaves its context in its mode, locked in its direction (R181). -/
theorem ChainedOp.locks (hop : ChainedOp c i mode d pass) (h : exec i s = .next t) (ht : t.errcode = .ok) :
    ∃ x, t.ctx[c.toNat]? = some x ∧ x.alg ≠ .none ∧ x.chain = mode ∧ x.dir = d := by
  rw [hop.exec_eq] at h
  rcases dataChecks_eq_next h with ⟨e, he, rfl⟩ | ⟨x, p, -, hx, hk, -, -, -, -, hm, -, -, h⟩
  · exact absurd ht he
  · obtain rfl := chainDone_eq_next.1 h
    obtain ⟨hlt, -⟩ := List.getElem?_eq_some_iff.1 hx
    exact ⟨_, List.getElem?_set_self hlt, hk, hm.resolve_left hop.mode_ne_none, rfl⟩

/-- On a context locked in the other direction a chained command fails (R181). -/
theorem ChainedOp.fails_of_otherDir (hop : ChainedOp c i mode d pass) (hx : s.ctx[c.toNat]? = some x)
    (hd : x.dir ≠ .unset ∧ x.dir ≠ d) (h : exec i s = .next t) :
    t.errcode ≠ .ok ∧ t = { s with errcode := t.errcode, errseen := true } := by
  rw [hop.exec_eq] at h
  rcases dataChecks_eq_next h with ⟨e, he, rfl⟩ | ⟨y, p, -, hy, -, -, -, -, -, -, hdir, -⟩
  · exact ⟨he, rfl⟩
  · obtain rfl : x = y := Option.some.inj (hx.symm.trans hy)
    exact absurd (hdir.resolve_left hop.mode_ne_none) (not_or.2 hd)

end

/-- Settles O28: success leaves the context locked, and the lock is what the other direction fails on. -/
theorem directionLock : Obligations.DirectionLock := by
  intro c s t s' r e d hed he ht hctx
  obtain ⟨mode, de, dd, pe, pd, hope, hopd, hne⟩ : ∃ mode de dd pe pd,
      ChainedOp c e mode de pe ∧ ChainedOp c d mode dd pd ∧ de ≠ dd := by
    simp only [Prod.mk.injEq] at hed
    rcases hed with ⟨rfl, rfl⟩ | ⟨rfl, rfl⟩ | ⟨rfl, rfl⟩ | ⟨rfl, rfl⟩
    · exact ⟨_, _, _, _, _, .cbcEnc, .cbcDec, nofun⟩
    · exact ⟨_, _, _, _, _, .cbcDec, .cbcEnc, nofun⟩
    · exact ⟨_, _, _, _, _, .cfbEnc, .cfbDec, nofun⟩
    · exact ⟨_, _, _, _, _, .cfbDec, .cfbEnc, nofun⟩
  obtain ⟨x, hx, hk, hm, rfl⟩ := hope.locks he ht
  rw [← hctx] at hx
  refine ⟨hopd.fails_of_otherDir hx ⟨hope.dir_ne_unset, hne⟩, fun y hy hl h0 hmul hsrc hdst => ?_⟩
  obtain rfl : x = y := Option.some.inj (hx.symm.trans hy)
  rw [hopd.exec_eq]
  exact dataChecks_of_otherDir hl hx hk h0 hmul hsrc hdst hopd.mode_ne_none hm ⟨hope.dir_ne_unset, hne⟩

/-! ## Decryption after encryption -/

/-- From `s` to `t` a data command with the keyed context `x` read `p` at SRC and wrote the blocks `os` to DST. -/
structure CipherRun (s t : State) (x : CipherCtx) (p : List Byte) (os : List (List Byte)) : Prop where
  keyed : x.alg ≠ .none
  read : s.mem.readBytes s.src.toNat s.len.toNat = some p
  len_mult : s.len.toNat % x.bs = 0
  block : ∀ b ∈ os, b.length = x.bs
  written : t.mem.readBytes s.dst.toNat s.len.toNat = some os.flatten

section
variable {s t : State} {c : CtxIx} {mode : Chain} {d : Dir} {x : CipherCtx} {p : List Byte} {os : List (List Byte)}

theorem DataPassed.cipherRun (hd : DataPassed s c mode d x p) (hn : os.length = (x.split p).length)
    (hb : ∀ b ∈ os, b.length = x.bs) (ht : t.mem = s.mem.writeBytes s.dst.toNat os.flatten) : CipherRun s t x p os :=
  ⟨hd.keyed, hd.bytes, hd.len_mult, hb, by rw [ht, ← hd.flatten_length hn hb, Memory.readBytes_writeBytes]⟩

theorem DataPassed.ecb_cipherRun (hd : DataPassed s c mode d x p) {F : List Byte → List Byte}
    (hF : ∀ b, (F b).length = x.bs) (h : succeed (s.write s.dst.toNat ((x.split p).map F).flatten) = .next t) :
    CipherRun s t x p ((x.split p).map F) := by
  obtain rfl := succeed_eq_next.1 h
  exact hd.cipherRun (List.length_map _) (List.forall_mem_map.2 fun b _ => hF b) rfl

variable (ht : t.errcode = .ok) (hx : s.ctx[c.toNat]? = some x) (hok : x.Ok)
include ht hx hok

theorem ecbEnc_cipherRun (h : exec (.ecbEnc c) s = .next t) : ∃ p, CipherRun s t x p ((x.split p).map x.blockEnc) := by
  obtain ⟨p, hd, h⟩ := dataChecks_success h ht hx
  exact ⟨p, hd.ecb_cipherRun (CipherCtx.blockEnc_length hok hd.keyed) h⟩

theorem ecbDec_cipherRun (h : exec (.ecbDec c) s = .next t) : ∃ p, CipherRun s t x p ((x.split p).map x.blockDec) := by
  obtain ⟨p, hd, h⟩ := dataChecks_success h ht hx
  exact ⟨p, hd.ecb_cipherRun (CipherCtx.blockDec_length hok hd.keyed) h⟩

theorem ChainedOp.cipherRun {i : Instr} {pass : CipherCtx → List Byte → List (List Byte) × List Byte}
    (hop : ChainedOp c i mode d pass) (h : exec i s = .next t) : ∃ p, CipherRun s t x p (pass x p).1 := by
  rw [hop.exec_eq] at h
  obtain ⟨p, hd, h⟩ := dataChecks_success h ht hx
  obtain rfl := chainDone_eq_next.1 h
  have hw := hop.whole hok hd.keyed p
  exact ⟨p, hd.cipherRun hw.count hw.block rfl⟩

end

/-- A run that reads what another run wrote, and computes by `G` the blocks that the other read, writes what the other
read. -/
theorem CipherRun.roundTrip {s1 t1 s2 t2 : State} {x y : CipherCtx} {p q : List Byte} {os : List (List Byte)}
    {G : List (List Byte) → List (List Byte)} (h1 : CipherRun s1 t1 x p os) (h2 : CipherRun s2 t2 y q (G (x.split q)))
    (hx : x.Ok) (hG : G os = x.split p)
    (hread : s2.mem.readBytes s2.src.toNat s2.len.toNat = t1.mem.readBytes s1.dst.toNat s1.len.toNat) :
    t2.mem.readBytes s2.dst.toNat s2.len.toNat = s1.mem.readBytes s1.src.toNat s1.len.toNat := by
  have hcipher : q = os.flatten := Option.some.inj (h2.read.symm.trans (hread.trans h1.written))
  have hcut : x.split q = os := hcipher ▸ CipherCtx.split_of_flatten (CipherCtx.bs_pos hx) h1.block
  have hp : p.length % x.bs = 0 := Memory.readBytes_length h1.read ▸ h1.len_mult
  rw [h2.written, h1.read, hcut, hG, CipherCtx.split_flatten hp]

/-- A context in order is fixed by its primitive, its schedules and its vector, but for mode and direction. -/
theorem CipherCtx.eq_of_keyed_alike {x y : CipherCtx} (hx : x.Ok) (hy : y.Ok) (halg : x.alg = y.alg) (hbf : x.bf = y.bf)
    (htf : x.tf = y.tf) (hV : x.V = y.V) : y = { x with chain := y.chain, dir := y.dir } := by
  have hbs : x.bs = y.bs := by rw [hx.bs_eq, hy.bs_eq, halg]
  rw [halg, hbf, htf, hV, hbs]

/-- R182 for one block of either primitive. -/
theorem CipherCtx.blockDec_blockEnc {x : CipherCtx} (hx : x.Ok) {b : List Byte} (hb : b.length = x.bs) :
    x.blockDec (x.blockEnc b) = b := by
  rw [hx.bs_eq] at hb
  unfold CipherCtx.blockDec CipherCtx.blockEnc
  cases halg : x.alg with
  | none => rfl
  | bf => exact bfD_bfE _ (by rwa [halg] at hb)
  | tf => exact tfD_tfE _ (by rwa [halg] at hb)

theorem xorBytes_xorBytes_cancel {a b : List Byte} (h : a.length ≤ b.length) : xorBytes (xorBytes a b) b = a := by
  induction a generalizing b with
  | nil => rfl
  | cons x a ih =>
    cases b with
    | nil => simp at h
    | cons y b =>
      have hxy : x ^^^ y ^^^ y = x := by rw [BitVec.xor_assoc, BitVec.xor_self, BitVec.xor_zero]
      change (x ^^^ y ^^^ y) :: xorBytes (xorBytes a b) b = x :: a
      rw [hxy, ih (by simpa using h)]

section
variable {x : CipherCtx} (hx : x.Ok) (hk : x.alg ≠ .none) {ps : List (List Byte)} (hps : ∀ p ∈ ps, p.length = x.bs)
include hx

include hps in
theorem CipherCtx.map_blockDec_map_blockEnc : (ps.map x.blockEnc).map x.blockDec = ps := by
  rw [List.map_map]
  exact (List.map_congr_left fun p hp => CipherCtx.blockDec_blockEnc hx (hps p hp)).trans (List.map_id ps)

include hk hps

theorem cbcDecBlocks_cbcEncBlocks :
    (cbcDecBlocks x.blockDec x.V (cbcEncBlocks x.blockEnc x.V ps).1).1 = ps := by
  have hinv (v p : List Byte) (hv : v.length = x.bs) (hp : p.length = x.bs) :
      cbcDecBlock x.blockDec v (cbcEncBlock x.blockEnc v p) = p := by
    have hpv : (xorBytes p v).length = x.bs := by simp [hp, hv]
    rw [cbcDecBlock, cbcEncBlock, CipherCtx.blockDec_blockEnc hx hpv, xorBytes_xorBytes_cancel (by omega)]
  rw [cbcEncBlocks_eq_encPass, cbcDecBlocks_eq_decPass]
  exact decPass_encPass (fun v p _ _ => CipherCtx.blockEnc_length hx hk _) hinv hx.vector_length hps

theorem cfbDecBlocks_cfbEncBlocks :
    (cfbDecBlocks x.blockEnc x.V (cfbEncBlocks x.blockEnc x.V ps).1).1 = ps := by
  have hE := CipherCtx.blockEnc_length hx hk
  rw [cfbEncBlocks_eq_encPass, cfbDecBlocks_eq_decPass]
  exact decPass_encPass (fun v p _ hp => by simp [cfbBlock, hE, hp])
    (fun v p _ hp => xorBytes_xorBytes_cancel (by rw [hE, hp])) hx.vector_length hps

end

/-- Settles O59: the decrypting command cuts its bytes into the blocks that the encrypting one wrote, and its pass undoes
the other's. -/
theorem cipherRoundTrip : Obligations.CipherRoundTrip := by
  intro s1 t1 s2 t2 c1 c2 x1 x2 e d hed hx1 hx2 hok1 hok2 halg hbf htf hV he ht1 _ hread hd ht2
  have hx2eq := CipherCtx.eq_of_keyed_alike hok1 hok2 halg hbf htf hV
  generalize x2.chain = ch, x2.dir = dir at hx2eq
  subst hx2eq
  have hsplit {p : List Byte} : ∀ b ∈ x1.split p, b.length = x1.bs := fun _ => CipherCtx.length_of_mem_split
  simp only [Prod.mk.injEq] at hed
  rcases hed with ⟨rfl, rfl⟩ | ⟨rfl, rfl⟩ | ⟨rfl, rfl⟩
  · obtain ⟨p, h1⟩ := ecbEnc_cipherRun ht1 hx1 hok1 he
    obtain ⟨q, h2⟩ := ecbDec_cipherRun ht2 hx2 hok2 hd
    exact h1.roundTrip (G := List.map x1.blockDec) h2 hok1 (CipherCtx.map_blockDec_map_blockEnc hok1 hsplit) hread
  · obtain ⟨p, h1⟩ := ChainedOp.cbcEnc.cipherRun ht1 hx1 hok1 he
    obtain ⟨q, h2⟩ := ChainedOp.cbcDec.cipherRun ht2 hx2 hok2 hd
    exact h1.roundTrip (G := fun cs => (cbcDecBlocks x1.blockDec x1.V cs).1) h2 hok1
      (cbcDecBlocks_cbcEncBlocks hok1 h1.keyed hsplit) hread
  · obtain ⟨p, h1⟩ := ChainedOp.cfbEnc.cipherRun ht1 hx1 hok1 he
    obtain ⟨q, h2⟩ := ChainedOp.cfbDec.cipherRun ht2 hx2 hok2 hd
    exact h1.roundTrip (G := fun cs => (cfbDecBlocks x1.blockEnc x1.V cs).1) h2 hok1
      (cfbDecBlocks_cfbEncBlocks hok1 h1.keyed hsplit) hread

/-! ## CBC_INIT and CFB_INIT -/

section
variable {s : State} {c : CtxIx} {x : CipherCtx} (hl : s.stfail = false) (hx : s.ctx[c.toNat]? = some x)
  (hk : x.alg ≠ .none) (mode : Chain)
include hl hx hk

theorem chainInit_zero :
    chainInit c true mode s = succeed (s.setCtx c { x with V := zeros x.bs, chain := mode, dir := .unset }) := by
  unfold chainInit
  rw [unlocked_of_passed hl, withCtx_of_some hx, if_neg hk, if_pos rfl]

theorem chainInit_vector {iv : List Byte} (hsrc : s.inBounds s.src x.bs)
    (hiv : s.mem.readBytes s.src.toNat x.bs = some iv) :
    chainInit c false mode s = succeed (s.setCtx c { x with V := iv, chain := mode, dir := .unset }) := by
  unfold chainInit
  rw [unlocked_of_passed hl, withCtx_of_some hx, if_neg hk, if_neg nofun, if_neg (not_not.2 hsrc), withBytes_of_some hiv]

end

/-- Settles O32: both commands are the same initialisation, each in its mode. -/
theorem chainInitEffect : Obligations.ChainInitEffect := fun _ _ _ hl hx hk =>
  ⟨chainInit_zero hl hx hk .cbc, chainInit_zero hl hx hk .cfb, fun _ hsrc hiv =>
    ⟨chainInit_vector hl hx hk .cbc hsrc hiv, chainInit_vector hl hx hk .cfb hsrc hiv⟩⟩

end Sys2Proof.Machine
end

section
/-! # Hashing

The hash over pieces of its input (R201), and the commands SHA256 and KDF (R203, R204). -/

namespace Sys2Proof.Machine

/-! ## Streaming -/

/-- Cutting a longer string: the blocks of what comes first, then the blocks of what these leave over, with the rest. -/
theorem blocks_append {n k : Nat} {p : List Byte} (hp : n * k ≤ p.length) (j : Nat) (q : List Byte) :
    blocks n (k + j) (p ++ q) = blocks n k p ++ blocks n j (p.drop (n * k) ++ q) := by
  rw [Nat.mul_comm] at hp ⊢
  have hcut := blocks_flatten_append (bs := blocks n k p) (fun _ => length_of_mem_blocks hp) j (p.drop (k * n) ++ q)
  rwa [blocks_length, blocks_flatten, ← List.append_assoc, List.take_append_drop] at hcut

theorem shaCompressAll_append (H : HashVal) (as bs : List (List Byte)) :
    shaCompressAll H (as ++ bs) = shaCompressAll (shaCompressAll H as) bs := List.foldl_append

/-- R201: absorbing in pieces is absorbing the whole. The first piece takes its whole blocks off the front, and the
second one goes on with what they leave over. -/
theorem ShaStream.update_update (st : ShaStream) (a b : List Byte) :
    (st.update a).update b = st.update (a ++ b) := by
  simp only [ShaStream.update, ← List.append_assoc]
  generalize st.pend ++ a = p
  have hfit : 64 * (p.length / 64) ≤ p.length := Nat.mul_div_le ..
  have hcount : (p ++ b).length / 64 = p.length / 64 + (p.drop (64 * (p.length / 64)) ++ b).length / 64 := by
    simp only [List.length_append, List.length_drop]
    omega
  rw [hcount]
  congr 1
  · rw [blocks_append hfit, shaCompressAll_append]
  · rw [Nat.mul_add, ← List.drop_drop, List.drop_append_of_le_length hfit]
  · rw [List.length_append, Nat.add_assoc]

/-- Settles O56: the two cuts agree, and what stays pending is a remainder modulo the block size. -/
theorem hashUpdateIsAssociative : Obligations.HashUpdateIsAssociative := fun st a b _ =>
  ⟨st.update_update a b, ShaStream.update_pend_length st a ▸ Nat.mod_lt _ (by decide)⟩

/-! ## SHA256 and KDF -/

theorem sha256Iter_eq_iterate (n : Nat) (x : List Byte) : sha256Iter n x = sha256^[n] x := by
  induction n generalizing x with
  | zero => rfl
  | succ n ih => exact ih (sha256 x)

/-- A command that ends in one write has written its bytes, and changed nothing else but ERRCODE. -/
theorem wrote_of_succeed_write {i : Instr} {s : State} {a : Nat} {out : List Byte}
    (h : exec i s = succeed (s.write a out)) :
    ∃ t, exec i s = .next t ∧ { t with mem := s.mem } = { s with errcode := .ok } ∧ Wrote s t a out :=
  ⟨_, h, rfl, Memory.writeBytes_spec ..⟩

section
variable {s : State} (hl : s.stfail = false)
include hl

theorem exec_sha256_of_passed {m : List Byte} (hsrc : s.inBounds s.src s.len.toNat) (hdst : s.inBounds s.dst 32)
    (hm : s.mem.readBytes s.src.toNat s.len.toNat = some m) :
    exec .sha256 s = succeed (s.write s.dst.toNat (sha256 m)) := by
  change execSha256 s = _
  rw [execSha256, unlocked_of_passed hl, if_neg (not_not.2 hsrc), if_neg (not_not.2 hdst), withBytes_of_some hm]

theorem exec_kdf_of_passed {pass salt : List Byte} (hiter : Config.iterMin ≤ s.arg2.toNat)
    (hsrc : s.inBounds s.src s.len.toNat) (hsalt : s.inBounds s.arg0 s.arg1.toNat) (hdst : s.inBounds s.dst 32)
    (hp : s.mem.readBytes s.src.toNat s.len.toNat = some pass)
    (hq : s.mem.readBytes s.arg0.toNat s.arg1.toNat = some salt) :
    exec .kdf s = succeed (s.write s.dst.toNat (stretchKey pass salt s.arg2.toNat)) := by
  change execKdf s = _
  rw [execKdf, unlocked_of_passed hl, if_neg (Nat.not_lt.2 hiter), if_neg (not_not.2 hsrc), if_neg (not_not.2 hsalt),
    if_neg (not_not.2 hdst), withBytes_of_some hp, withBytes_of_some hq]

/-- The iteration count is the first check of KDF (R204). -/
theorem exec_kdf_of_lt_iterMin (hiter : s.arg2.toNat < Config.iterMin) : exec .kdf s = raise .invalidParameter s := by
  change execKdf s = _
  rw [execKdf, unlocked_of_passed hl, if_pos hiter]

end

/-- Settles O39: past its checks the command is one write of the digest. -/
theorem sha256Effect : Obligations.Sha256Effect := by
  intro s m hl hsrc hdst hm
  obtain ⟨t, hexec, hframe, hwrote⟩ := wrote_of_succeed_write (exec_sha256_of_passed hl hsrc hdst hm)
  exact ⟨t, hexec, hframe, sha256_length m, hwrote⟩

/-- Settles O40: past its checks the command is one write of the stretched key, and the count is checked first. -/
theorem kdfEffect : Obligations.KdfEffect := by
  refine ⟨fun s pass salt hl hiter hsrc hsalt hdst hp hq => ?_, fun s hl => exec_kdf_of_lt_iterMin hl⟩
  obtain ⟨t, hexec, hframe, hwrote⟩ := wrote_of_succeed_write (exec_kdf_of_passed hl hiter hsrc hsalt hdst hp hq)
  exact ⟨t, _, hexec, hframe, sha256Iter_eq_iterate _ _, stretchKey_length pass salt _, hwrote⟩

end Sys2Proof.Machine
end

section
/-! # The HMAC accumulator

A started context over the pieces that it absorbs (R224, R226), and the commands HMAC_INIT, HMAC_UPDATE and HMAC_DIGEST
(R220 to R222). -/

namespace Sys2Proof.Machine

/-! ## Contexts -/

theorem HmacCtx.absorb_absorb (y : HmacCtx) (a b : List Byte) : (y.absorb a).absorb b = y.absorb (a ++ b) := by
  simp only [HmacCtx.absorb, ShaStream.update_update]

/-- After a first absorption, absorbing pieces is absorbing their concatenation with it (R226). -/
theorem HmacCtx.foldl_absorb_absorb (y : HmacCtx) (d : List Byte) (ds : List (List Byte)) :
    ds.foldl HmacCtx.absorb (y.absorb d) = y.absorb (d ++ ds.flatten) := by
  induction ds generalizing d with
  | nil => simp
  | cons e ds ih => rw [List.foldl_cons, absorb_absorb, ih, List.flatten_cons, List.append_assoc]

/-- A context starts by absorbing the inner pad into an empty hash (R220). -/
theorem HmacCtx.start_eq_absorb (seed : List Byte) :
    HmacCtx.start seed = { HmacCtx.start seed with ist := ShaStream.init }.absorb (hmacInnerPad seed) := rfl

theorem HmacCtx.digested_of_accum {y : HmacCtx} (hp : y.phase = .accum) :
    y.digested = { y with memo := sha256 (y.okey ++ y.ist.final), phase := .done, ist := ShaStream.zero } :=
  if_pos hp

theorem HmacCtx.digested_of_ne_accum {y : HmacCtx} (hp : y.phase ≠ .accum) : y.digested = y := if_neg hp

/-- R224, R226: however the data was split, the digest is the HMAC of the whole. -/
theorem HmacCtx.digested_memo_of_pieces (seed : List Byte) (ds : List (List Byte)) :
    (ds.foldl HmacCtx.absorb (HmacCtx.start seed)).digested.memo = hmac seed ds.flatten := by
  rw [start_eq_absorb, foldl_absorb_absorb, digested_of_accum rfl]
  rfl

/-- Settles O57: the pieces are absorbed as one string after the inner pad, and the digest hashes that with the outer
pad. -/
theorem hmacStreaming : Obligations.HmacStreaming := fun seed ds _ => HmacCtx.digested_memo_of_pieces seed ds

/-! ## Commands -/

/-- Writing back the context that stands there changes nothing. -/
theorem State.setHctx_self {s : State} {h : CtxIx} {y : HmacCtx} (hy : s.hctx[h.toNat]? = some y) :
    s.setHctx h y = s := by
  obtain ⟨hlt, rfl⟩ := List.getElem?_eq_some_iff.1 hy
  rw [State.setHctx, List.set_getElem_self]

/-- A command that ends in an HMAC context put in place and one write has changed nothing else but ERRCODE. -/
theorem wrote_of_succeed_setHctx_write {i : Instr} {s : State} {h : CtxIx} {y : HmacCtx} {a : Nat} {out : List Byte}
    (hi : exec i s = succeed ((s.setHctx h y).write a out)) :
    ∃ t, exec i s = .next t ∧ { t with mem := s.mem } = { s with hctx := s.hctx.set h.toNat y, errcode := .ok } ∧
      Wrote s t a out :=
  ⟨_, hi, rfl, Memory.writeBytes_spec ..⟩

section
variable {s : State} {h : CtxIx} {y : HmacCtx} (hl : s.stfail = false) (hy : s.hctx[h.toNat]? = some y)
include hl hy

theorem exec_hmacInit_of_passed {seed : List Byte} (hmax : s.len.toNat ≤ Config.hmacSeedMax)
    (hsrc : s.inBounds s.src s.len.toNat) (hb : s.mem.readBytes s.src.toNat s.len.toNat = some seed) :
    exec (.hmacInit h) s = succeed (s.setHctx h (HmacCtx.start seed)) := by
  change execHmacInit h s = _
  rw [execHmacInit, unlocked_of_passed hl, withHctx_of_some hy, if_neg (Nat.not_lt.2 hmax), if_neg (not_not.2 hsrc),
    withBytes_of_some hb]

theorem exec_hmacUpdate_of_accum {d : List Byte} (hsrc : s.inBounds s.src s.len.toNat) (hp : y.phase = .accum)
    (hd : s.mem.readBytes s.src.toNat s.len.toNat = some d) :
    exec (.hmacUpdate h) s = succeed (s.setHctx h (y.absorb d)) := by
  change execHmacUpdate h s = _
  rw [execHmacUpdate, unlocked_of_passed hl, withHctx_of_some hy, if_neg (not_not.2 hsrc), if_neg (not_not.2 hp),
    withBytes_of_some hd]

theorem exec_hmacUpdate_of_ne_accum (hsrc : s.inBounds s.src s.len.toNat) (hp : y.phase ≠ .accum) :
    exec (.hmacUpdate h) s = raise .stateError s := by
  change execHmacUpdate h s = _
  rw [execHmacUpdate, unlocked_of_passed hl, withHctx_of_some hy, if_neg (not_not.2 hsrc), if_pos hp]

theorem exec_hmacDigest_of_idle (hdst : s.inBounds s.dst 32) (hp : y.phase = .idle) :
    exec (.hmacDigest h) s = raise .stateError s := by
  change execHmacDigest h s = _
  rw [execHmacDigest, unlocked_of_passed hl, withHctx_of_some hy, if_neg (not_not.2 hdst), if_pos hp]

theorem exec_hmacDigest_of_ne_idle (hdst : s.inBounds s.dst 32) (hp : y.phase ≠ .idle) :
    exec (.hmacDigest h) s = succeed ((s.setHctx h y.digested).write s.dst.toNat y.digested.memo) := by
  change execHmacDigest h s = _
  rw [execHmacDigest, unlocked_of_passed hl, withHctx_of_some hy, if_neg (not_not.2 hdst), if_neg hp]

/-- R222: repeating a digest only writes the memo again. -/
theorem exec_hmacDigest_of_done (hdst : s.inBounds s.dst 32) (hp : y.phase = .done) :
    exec (.hmacDigest h) s = succeed (s.write s.dst.toNat y.memo) := by
  rw [exec_hmacDigest_of_ne_idle hl hy hdst (by simp [hp]), HmacCtx.digested_of_ne_accum (by simp [hp]),
    State.setHctx_self hy]

end

/-- Settles O43: without a context in use an error; otherwise the digest, computed in ACCUM and taken from the memo in
DONE, is written. -/
theorem hmacDigestEffect : Obligations.HmacDigestEffect := by
  intro s h y hl hy hdst
  refine ⟨exec_hmacDigest_of_idle hl hy hdst, fun hp => ?_, fun hp => ?_⟩
  · have hexec := exec_hmacDigest_of_ne_idle hl hy hdst (by simp [hp])
    rw [HmacCtx.digested_of_accum hp] at hexec
    exact wrote_of_succeed_setHctx_write hexec
  · exact wrote_of_succeed_write (exec_hmacDigest_of_done hl hy hdst hp)

/-- Settles O41: past its checks the command starts the context, which had any phase, over the padded seed. -/
theorem hmacInitEffect : Obligations.HmacInitEffect := by
  intro s h seed hl hh hmax hsrc hb
  rw [exec_hmacInit_of_passed hl (List.getElem?_eq_getElem hh) hmax hsrc hb, ← Memory.readBytes_length hb]
  rfl

/-- Settles O42: in ACCUM the command absorbs the bytes, and the phase is its last check. -/
theorem hmacUpdateEffect : Obligations.HmacUpdateEffect := fun _ _ _ hl hy hsrc =>
  ⟨fun _ hp hd => exec_hmacUpdate_of_accum hl hy hsrc hp hd, exec_hmacUpdate_of_ne_accum hl hy hsrc⟩

end Sys2Proof.Machine
end

section
/-! # The layout of a field

The parts of the wire that FIELD_ENC writes (R242, R243, R249): header, data, and the filler in drawing order; and the
sizes of R241. -/

namespace Sys2Proof.Machine

/-! ## Sizes -/

theorem codecBs_eq (v : Format) : codecBs v = if v = .v3 then 16 else 8 := by cases v <;> rfl

theorem dataOffset_eq (v : Format) : dataOffset v = if v = .v3 then 5 else 8 := by cases v <;> rfl

theorem wireLen_zero (v : Format) : wireLen 0 v = 16 := by cases v <;> rfl

theorem wireLen_zero_sub (v : Format) : wireLen 0 v - 5 = 11 := by cases v <;> rfl

theorem fieldCount_zero (v : Format) : fieldCount 0 v = if v = .v3 then 1 else 2 := by cases v <;> rfl

theorem fieldCount_pos (n : Nat) (v : Format) : 0 < fieldCount n v := by
  cases v <;> exact Nat.add_pos_left Nat.one_pos _

/-- A wire shorter than one block is shorter than every field (R252). -/
theorem codecBs_le_wireLen (n : Nat) (v : Format) : codecBs v ≤ wireLen n v :=
  Nat.le_mul_of_pos_left _ (fieldCount_pos n v)

/-- The count of a 32-bit length fits a result register (R247). -/
theorem fieldCount_lt {n : Nat} (hn : n < 2 ^ 32) (v : Format) : fieldCount n v < 2 ^ 32 := by
  cases v with
  | v12 =>
    simp only [fieldCount, ceilDiv]
    omega
  | v3 =>
    simp only [fieldCount, ceilDiv]
    omega

theorem fillerLen_v12_ge (n : Nat) : 3 ≤ fillerLen n .v12 := by
  have hge := wireLen_ge n .v12
  simp only [if_true] at hge
  simp only [fillerLen]
  omega

/-! ## The parts of a wire -/

theorem slice_append_left_length {a b c : List Byte} {i n : Nat} (hi : a.length = i) (hn : b.length = n) :
    slice (a ++ b ++ c) i n = b := by
  rw [slice, List.append_assoc, List.drop_left' hi, List.take_left' hn]

section
variable (v : Format) (t : Byte) (D filler : List Byte)

/-- The header starts with the declared length (R242, R243). -/
theorem slice_fieldWire_length {D : List Byte} {n : Word} (hn : D.length = n.toNat) :
    slice (fieldWire v t D filler) 0 4 = LE32 n := by
  rw [← BitVec.setWidth_eq n, ← BitVec.ofNat_toNat, ← hn]
  cases v <;> rfl

theorem slice_fieldWire_type : slice (fieldWire v t D filler) 4 1 = [t] := by cases v <;> rfl

theorem fieldWire_getD_type : (fieldWire v t D filler).getD 4 0 = t := by cases v <;> rfl

variable {v filler} in
theorem slice_fieldWire_data (h : filler.length = fillerLen D.length v) :
    slice (fieldWire v t D filler) (dataOffset v) D.length = D := by
  cases v with
  | v12 =>
    have h3 : 3 ≤ filler.length := h ▸ fillerLen_v12_ge D.length
    exact slice_append_left_length (by simp [dataOffset, h3]) rfl
  | v3 => exact slice_append_left_length rfl rfl

theorem drop_fieldWire_v3 : (fieldWire .v3 t D filler).drop (5 + D.length) = filler :=
  List.drop_left' (by simp; omega)

variable {filler} in
/-- In V1/V2 the filler stands in two places, its first three bytes at the end of the header block (R243). -/
theorem filler_fieldWire_v12 (h : 3 ≤ filler.length) :
    slice (fieldWire .v12 t D filler) 5 3 ++ (fieldWire .v12 t D filler).drop (8 + D.length) = filler := by
  have hlen : (filler.take 3).length = 3 := List.length_take_of_le h
  have hhead : slice (fieldWire .v12 t D filler) 5 3 = filler.take 3 := by
    rw [fieldWire, List.append_assoc _ D]
    exact slice_append_left_length rfl hlen
  have htail : (fieldWire .v12 t D filler).drop (8 + D.length) = filler.drop 3 :=
    List.drop_left' (by simp [hlen]; omega)
  rw [hhead, htail, List.take_append_drop]

end

/-- The data of a field, padded with zeros, has the declared length (R245). -/
theorem declaredData_length {s : State} {d : List Byte} (hd : s.mem.readBytes s.src.toNat s.arg0.toNat = some d)
    (hl : s.arg0.toNat ≤ s.len.toNat) : (d ++ zeros (s.len.toNat - s.arg0.toNat)).length = s.len.toNat := by
  rw [List.length_append, Memory.readBytes_length hd, zeros_length, Nat.add_sub_cancel' hl]

end Sys2Proof.Machine
end

section
/-! # The codec commands

What each codec command comes to past its checks (R244 to R248), and the truncated wire (R252). -/

namespace Sys2Proof.Machine

/-! ## The HMAC operand -/

section
variable {s : State} {u : Bool} {h : CtxIx} {y : Option HmacCtx}

theorem codecChecks_of_ready (hr : CodecReady s u h) :
    ∃ y, Absorbs s h u y ∧ ∀ k, codecChecks u h s k = k y := by
  obtain ⟨hl, hu⟩ := hr
  unfold codecChecks
  cases u with
  | false =>
    obtain rfl : h = 0 := hu
    exact ⟨none, .off, fun k => by simp [hmacFieldsOk, hl]⟩
  | true =>
    obtain ⟨y, hy, hp⟩ := hu
    exact ⟨some y, .on hy hp, fun k => by simp [hmacFieldsOk, hl, hy]⟩

theorem Absorbs.hmacReady (ha : Absorbs s h u y) : hmacReady y = true := by
  cases ha with
  | off => rfl
  | on _ hp => simp [Machine.hmacReady, hp]

/-- What a codec command's absorption does to the state (R225). -/
theorem Absorbs.hmacAbsorb_eq (ha : Absorbs s h u y) (d : List Byte) :
    hmacAbsorb h y d s = { s with hctx := absorbed s u h d } := by
  cases ha with
  | off => rfl
  | on hy _ => simp [hmacAbsorb_some, State.setHctx, absorbed, State.hctxAt, HmacCtx.absorb, hy]

theorem absorbed_getElem? (s : State) (h : CtxIx) (d : List Byte) :
    (absorbed s true h d)[h.toNat]? = (s.hctx[h.toNat]?).map (·.absorb d) := by
  cases hy : s.hctx[h.toNat]? with
  | none => simpa [absorbed] using hy
  | some y =>
    obtain ⟨hlt, rfl⟩ := List.getElem?_eq_some_iff.1 hy
    simp [absorbed, hlt, State.hctxAt, HmacCtx.absorb]

end

/-! ## Past the checks -/

section
variable {s : State} {v : Format} {u : Bool} {h : CtxIx}

theorem exec_fieldCount_of_unlocked (hl : s.stfail = false) (v : Format) :
    exec (.fieldCount v) s = succeed (s.setResult0 (BitVec.ofNat 32 (fieldCount s.arg0.toNat v))) := by
  change execFieldCount v s = _
  rw [execFieldCount, unlocked_of_passed hl]

theorem exec_fieldTerm_of_passed (hl : s.stfail = false) (hdst : s.inBounds s.dst 16) :
    exec (.fieldTerm v) s = succeed ((((s.afterDraw 11).write s.dst.toNat
      ([0x00, 0x00, 0x00, 0x00, 0xFF] ++ s.drawn 11)).setResult0 16).setResult1 (if v = .v3 then 1 else 2)) := by
  change execFieldTerm v s = _
  rw [execFieldTerm, unlocked_of_passed hl, wireLen_zero_sub, wireLen_zero, if_neg (not_not.2 hdst), fieldCount_zero,
    apply_ite (BitVec.ofNat 32)]
  simp only [BitVec.ofNat_eq_ofNat]

variable (hr : CodecReady s u h)
include hr

theorem exec_blkPad_of_ready {d : List Byte} {pad : Nat} (hsrc : s.inBounds s.src s.len.toNat)
    (hdst : s.inBounds s.dst (paddedLen s.len.toNat v)) (hd : s.mem.readBytes s.src.toNat s.len.toNat = some d)
    (hpad : pad = paddedLen s.len.toNat v - s.len.toNat) :
    exec (.blkPad v u h) s =
      succeed (((({ s with hctx := absorbed s u h d } : State).afterDraw pad).write s.dst.toNat
        (d ++ s.drawn pad)).setResult0 (BitVec.ofNat 32 (paddedLen s.len.toNat v))) := by
  obtain ⟨y, ha, hchecks⟩ := codecChecks_of_ready hr
  change execBlkPad v u h s = _
  rw [execBlkPad, hchecks, if_neg (not_not.2 hsrc), if_neg (not_not.2 hdst), if_neg (by simp [ha.hmacReady]),
    withBytes_of_some hd, ha.hmacAbsorb_eq, ← hpad]

theorem exec_fieldEnc_of_ready {d D : List Byte} {f : Nat} (hlen : s.arg0.toNat ≤ s.len.toNat)
    (htype : s.arg1.toNat < 255) (hsrc : s.inBounds s.src s.arg0.toNat)
    (hdst : s.inBounds s.dst (wireLen s.len.toNat v)) (hd : s.mem.readBytes s.src.toNat s.arg0.toNat = some d)
    (hD : D = d ++ zeros (s.len.toNat - s.arg0.toNat)) (hf : f = fillerLen s.len.toNat v) :
    exec (.fieldEnc v u h) s =
      succeed ((((({ s with hctx := absorbed s u h D } : State).afterDraw f).write s.dst.toNat
        (fieldWire v (s.arg1.setWidth 8) D (s.drawn f))).setResult0
          (BitVec.ofNat 32 (wireLen s.len.toNat v))).setResult1 (BitVec.ofNat 32 (fieldCount s.len.toNat v))) := by
  obtain ⟨y, ha, hchecks⟩ := codecChecks_of_ready hr
  change execFieldEnc v u h s = _
  rw [execFieldEnc, hchecks, if_neg (by omega), if_neg (by omega), if_neg (by omega), if_neg (not_not.2 hsrc),
    if_neg (not_not.2 hdst), if_neg (by simp [ha.hmacReady]), withBytes_of_some hd]
  simp only [← hD, ← hf, ha.hmacAbsorb_eq]

/-- Both Truncated checks of R246 are the one that the wire holds the whole field: a wire below one block does not. -/
theorem exec_fieldDec_of_ready {w D : List Byte} {length : Word} (hsrc : s.inBounds s.src s.len.toNat)
    (hw : s.mem.readBytes s.src.toNat s.len.toNat = some w) (hn : length = le32 (slice w 0 4))
    (hD : D = slice w (dataOffset v) length.toNat) :
    exec (.fieldDec v u h) s =
      if s.len.toNat < wireLen length.toNat v then raise .truncated s
      else if ¬s.inBounds s.dst length.toNat then raise .outOfBounds s
      else succeed ((((({ s with hctx := absorbed s u h D } : State).write s.dst.toNat D).setResult0
        ((w.getD 4 0).setWidth 32)).setResult1 length).setResult2 (BitVec.ofNat 32 (wireLen length.toNat v))) := by
  obtain ⟨y, ha, hchecks⟩ := codecChecks_of_ready hr
  change execFieldDec v u h s = _
  rw [execFieldDec, hchecks, if_neg (not_not.2 hsrc), if_neg (by simp [ha.hmacReady])]
  by_cases hshort : s.len.toNat < codecBs v
  · rw [if_pos hshort, if_pos (Nat.lt_of_lt_of_le hshort (codecBs_le_wireLen _ v))]
  · rw [if_neg hshort, withBytes_of_some hw]
    simp only [← hn, ← hD, ha.hmacAbsorb_eq]

end

theorem wrote_of_mem_eq {s t : State} {a : Nat} {bs : List Byte} (h : t.mem = s.mem.writeBytes a bs) :
    Wrote s t a bs := by
  rw [Wrote, h]
  exact Memory.writeBytes_spec s.mem a bs

/-- The random bytes of a command, as the statements name them. -/
theorem drawn_eq_drawnBytes (s : State) (n : Nat) : s.drawn n = drawnBytes s n := rfl

/-- Settles O48: the count of a 32-bit length is not cut off in RESULT0. -/
theorem fieldCountEffect : Obligations.FieldCountEffect := by
  intro s hl
  have hcount (v : Format) : (BitVec.ofNat 32 (fieldCount s.arg0.toNat v)).toNat = fieldCount s.arg0.toNat v := by
    rw [BitVec.toNat_ofNat, Nat.mod_eq_of_lt (fieldCount_lt s.arg0.isLt v)]
  exact ⟨⟨_, exec_fieldCount_of_unlocked hl .v3, hcount .v3⟩, ⟨_, exec_fieldCount_of_unlocked hl .v12, hcount .v12⟩⟩

/-- Settles O49: past its checks the command is one write of the terminator and its filler. -/
theorem fieldTermEffect : Obligations.FieldTermEffect := fun _ _ hl hdst =>
  ⟨_, exec_fieldTerm_of_passed hl hdst, by simp [rngAfter], wrote_of_mem_eq (by simp [drawn_eq_drawnBytes])⟩

/-- Settles O44: past its checks the command absorbs the data and writes it with its random filler. -/
theorem blkPadEffect : Obligations.BlkPadEffect := by
  intro s v u h d bs out hr hbs hout hsrc hdst hd
  obtain rfl : out = paddedLen s.len.toNat v := by rw [hout, hbs, ← codecBs_eq, paddedLen, ceilDiv]
  exact ⟨_, exec_blkPad_of_ready hr hsrc hdst hd rfl, by simp [rngAfter],
    wrote_of_mem_eq (by simp [drawn_eq_drawnBytes])⟩

/-- Settles O45: past its checks the command writes one wire, whose parts are those of R242 and R243. -/
theorem fieldEncEffect : Obligations.FieldEncEffect := by
  rintro s v u h d _ hr rfl hlen htype hsrc hdst hd
  obtain ⟨D, hD⟩ : ∃ D, D = d ++ zeros (s.len.toNat - s.arg0.toNat) := ⟨_, rfl⟩
  have hDlen : D.length = s.len.toNat := hD ▸ declaredData_length hd hlen
  have hf : (s.drawn (fillers s.len.toNat v)).length = fillerLen D.length v := by
    rw [State.drawn_length, hDlen, fillers, fillerLen, wireLen]
  have hexec := exec_fieldEnc_of_ready hr hlen htype hsrc hdst hd hD (f := fillers s.len.toNat v) rfl
  rw [← hD, ← drawn_eq_drawnBytes]
  refine ⟨_, fieldWire v (s.arg1.setWidth 8) D (s.drawn (fillers s.len.toNat v)), hexec, by simp [rngAfter, wireLen],
    ?_, wrote_of_mem_eq (by simp), slice_fieldWire_length _ _ _ hDlen, slice_fieldWire_type .., ?_, ?_⟩
  · rw [fieldWire_length hf, hDlen, wireLen]
  · rintro rfl
    rw [← hDlen] at hf ⊢
    exact ⟨slice_fieldWire_data _ _ hf, drop_fieldWire_v3 ..⟩
  · rintro rfl
    rw [← hDlen] at hf ⊢
    exact ⟨slice_fieldWire_data _ _ hf, filler_fieldWire_v12 _ _ (hf ▸ fillerLen_v12_ge _)⟩

/-- Settles O46: on a wire that holds the whole field the command reads header and data, and no other byte matters. -/
theorem fieldDecEffect : Obligations.FieldDecEffect := by
  rintro s v u h w D _ hr hsrc hw rfl hwire hdst hD
  rw [← wireLen] at hwire ⊢
  rw [← dataOffset_eq] at hD
  have hwlen : wireLen (le32 (slice w 0 4)).toNat v ≤ w.length := Memory.readBytes_length hw ▸ hwire
  have h4 : 4 < w.length := by
    have hge := wireLen_ge (le32 (slice w 0 4)).toNat v
    omega
  have hexec := exec_fieldDec_of_ready hr hsrc hw rfl hD
  rw [if_neg (Nat.not_lt.2 hwire), if_neg (not_not.2 hdst), List.getD_eq_getElem _ _ h4] at hexec
  exact ⟨_, _, hexec, List.getElem?_eq_getElem h4, hD ▸ slice_dataOffset_length hwlen, by simp,
    wrote_of_mem_eq (by simp)⟩

/-- Settles O47: the wire does not hold the whole field. -/
theorem truncationIsDetected : Obligations.TruncationIsDetected := by
  intro s v u h w hr hsrc hw hshort
  rw [exec_fieldDec_of_ready hr hsrc hw rfl rfl]
  exact if_pos hshort

end Sys2Proof.Machine
end

section
/-! # A field encoded and decoded

What a successful FIELD_ENC and a successful FIELD_DEC have done, and what decoding the wire of an encoding gives back
(R250, R251). -/

namespace Sys2Proof.Machine

/-- From `s` to `t` FIELD_ENC wrote the field of data `D` with some filler to DST. -/
structure FieldEncoded (s t : State) (v : Format) (u : Bool) (h : CtxIx) (D filler : List Byte) : Prop where
  type_lt : s.arg1.toNat < 255
  dst_in : s.inBounds s.dst (wireLen s.len.toNat v)
  length : D.length = s.len.toNat
  filler_length : filler.length = fillerLen D.length v
  written : t.mem.readBytes s.dst.toNat (wireLen s.len.toNat v) = some (fieldWire v (s.arg1.setWidth 8) D filler)
  result0 : t.result0 = BitVec.ofNat 32 (wireLen s.len.toNat v)
  hctx : t.hctx = absorbed s u h D

/-- From `s` to `t` FIELD_DEC read the wire `w` at SRC and took the data `D` from it. -/
structure FieldDecoded (s t : State) (v : Format) (u : Bool) (h : CtxIx) (w D : List Byte) : Prop where
  read : s.mem.readBytes s.src.toNat s.len.toNat = some w
  data : D = slice w (dataOffset v) (le32 (slice w 0 4)).toNat
  written : t.mem.readBytes s.dst.toNat D.length = some D
  result0 : t.result0 = (w.getD 4 0).setWidth 32
  result1 : t.result1 = le32 (slice w 0 4)
  result2 : t.result2 = BitVec.ofNat 32 (wireLen (le32 (slice w 0 4)).toNat v)
  hctx : t.hctx = absorbed s u h D

section
variable {s t : State} {v : Format} {u : Bool} {h : CtxIx}

/-- A command that succeeds completes (R302). -/
theorem exec_completes {i : Instr} (hn : exec i s = .next t) (ht : t.errcode = .ok) :
    ∃ u, Completes s i u ∧ t = u.okStatus := by
  rcases exec_ends s i t hn with ⟨e, he, rfl⟩ | hu
  · exact absurd ht he
  · exact hu

/-- FIELD_ENC succeeds only with a type below 0xFF (R245). -/
theorem execFieldEnc_type_lt (hn : execFieldEnc v u h s = .next t) (ht : t.errcode = .ok) : s.arg1.toNat < 255 := by
  rcases codecChecks_eq_next hn with ⟨e, he, rfl⟩ | ⟨-, -, y, -, hn⟩
  · exact absurd ht he
  obtain ⟨-, hn⟩ := check_passed hn ht
  obtain ⟨hmax, hn⟩ := check_passed hn ht
  obtain ⟨hne, -⟩ := check_passed hn ht
  omega

theorem fieldEncoded_of_exec {d : List Byte} (hd : s.mem.readBytes s.src.toNat s.arg0.toNat = some d)
    (hn : exec (.fieldEnc v u h) s = .next t) (ht : t.errcode = .ok) :
    ∃ D filler, D = d ++ zeros (s.len.toNat - s.arg0.toNat) ∧ FieldEncoded s t v u h D filler := by
  have htype := execFieldEnc_type_lt hn ht
  obtain ⟨_, hc, rfl⟩ := exec_completes hn ht
  cases hc with
  | @fieldEnc _ _ _ _ _ D f ha hl ho hb hD hf =>
    obtain rfl := Option.some.inj (hb.symm.trans hd)
    have hlen : D.length = s.len.toNat := hD ▸ declaredData_length hb hl
    have hfiller : (s.drawn f).length = fillerLen D.length v := by rw [State.drawn_length, hf, hlen]
    refine ⟨D, s.drawn f, hD, htype, ho, hlen, hfiller, ?_, by simp, by simp [ha.hmacAbsorb_eq]⟩
    rw [← hlen, ← fieldWire_length (t := s.arg1.setWidth 8) hfiller]
    simp

theorem fieldDecoded_of_exec (hn : exec (.fieldDec v u h) s = .next t) (ht : t.errcode = .ok) :
    ∃ w D, FieldDecoded s t v u h w D := by
  obtain ⟨_, hc, rfl⟩ := exec_completes hn ht
  cases hc with
  | @fieldDec _ _ _ _ w _ D ha _ hb hlength hD =>
    subst hlength
    exact ⟨w, D, hb, hD, by simp, by simp, by simp, by simp, by simp [ha.hmacAbsorb_eq]⟩

end

/-- A field's type fits the byte that carries it (R240). -/
theorem setWidth_setWidth_of_lt {x : Word} (hx : x.toNat < 255) : (x.setWidth 8).setWidth 32 = x := by
  apply BitVec.eq_of_toNat_eq
  simp only [BitVec.toNat_setWidth]
  omega

/-- Decoding the wire of a field reads its declared length and gives back its data, whatever the filler (R250). -/
theorem FieldDecoded.of_encoded {s1 t1 s2 t2 : State} {v : Format} {u1 u2 : Bool} {h1 h2 : CtxIx}
    {w D D' filler : List Byte} (he : FieldEncoded s1 t1 v u1 h1 D filler) (hd : FieldDecoded s2 t2 v u2 h2 w D')
    (hw : w = fieldWire v (s1.arg1.setWidth 8) D filler) : le32 (slice w 0 4) = s1.len ∧ D' = D := by
  have hlen : le32 (slice w 0 4) = s1.len := by rw [hw, slice_fieldWire_length _ _ _ he.length, le32_LE32]
  exact ⟨hlen, by rw [hd.data, hlen, hw, ← he.length, slice_fieldWire_data _ _ he.filler_length]⟩

/-- Settles O60: the wire that FIELD_DEC reads is the one that FIELD_ENC wrote, and its parts are what went into it. -/
theorem fieldRoundTrip : Obligations.FieldRoundTrip := by
  intro s1 t1 s2 t2 v u1 u2 h1 h2 d hok hd henc ht1 hlen2 hread hdec ht2
  obtain ⟨D, filler, hD, he⟩ := fieldEncoded_of_exec hd henc ht1
  obtain ⟨w, _, hdc⟩ := fieldDecoded_of_exec hdec ht2
  have hfit : t1.result0.toNat = wireLen s1.len.toNat v := by
    have hmax := hok.par.dmem_max
    have hin := he.dst_in
    rw [he.result0, BitVec.toNat_ofNat, Nat.mod_eq_of_lt (by omega)]
  have hw : w = fieldWire v (s1.arg1.setWidth 8) D filler := by
    rw [hfit, he.written, hdc.read] at hread
    exact Option.some.inj hread
  obtain ⟨hlength, rfl⟩ := hdc.of_encoded he hw
  rw [← hD]
  refine ⟨?_, hdc.result1.trans hlength, ?_, he.length ▸ hdc.written, ?_⟩
  · rw [hdc.result0, hw, fieldWire_getD_type, setWidth_setWidth_of_lt he.type_lt]
  · rw [hdc.result2, hlength, he.result0]
  · rintro rfl rfl hsame
    rw [he.hctx, hdc.hctx, absorbed_getElem?, absorbed_getElem?, hsame]

end Sys2Proof.Machine
end

section
/-! # The generator

How the generator serves its next byte, from what its buffer holds or from a refill (R272 to R274), and that two draws in
a row are one draw (R282). -/

namespace Sys2Proof.Machine

section
variable {oracle : Nat → List Byte × List Byte} {g : Rng}

/-- A buffer that is not used up serves its next byte (R272). -/
theorem Rng.byte_of_unread (h : g.ridx < 64) :
    g.byte oracle = (g.rbuf.getD g.ridx 0, { g with ridx := g.ridx + 1 }) := by
  rw [Rng.byte, Rng.ready, if_neg (Nat.ne_of_lt h)]

/-- A buffer that is used up is refilled first (R272). -/
theorem Rng.byte_of_used (h : g.ridx = 64) :
    g.byte oracle = ((g.refill oracle).rbuf.getD (g.refill oracle).ridx 0,
      { g.refill oracle with ridx := (g.refill oracle).ridx + 1 }) := by
  rw [Rng.byte, Rng.ready, if_pos h]

variable (oracle g) in
/-- A refill starts from the pool that stands there, or from a rebuilt one when no refill is left (R273, R274). -/
theorem Rng.refill_eq_refillFrom : ∃ pool left ent,
    (if g.rleft = 0 then
        pool = sha256 (g.rbuf ++ (oracle g.ent).1 ++ g.rseed ++ (oracle g.ent).2) ∧ left = g.rcycle ∧ ent = g.ent + 1
      else pool = g.pool ∧ left = g.rleft ∧ ent = g.ent) ∧
    g.refill oracle = Rng.refillFrom { g with pool := pool, rleft := left, ent := ent } := by
  rw [Rng.refill]
  by_cases hleft : g.rleft = 0
  · rw [if_pos hleft, Rng.rebuild]
    exact ⟨_, g.rcycle, g.ent + 1, (if_pos hleft).mpr ⟨rfl, rfl, rfl⟩, rfl⟩
  · rw [if_neg hleft]
    exact ⟨g.pool, g.rleft, g.ent, (if_neg hleft).mpr ⟨rfl, rfl, rfl⟩, rfl⟩

theorem getElem?_eq_some_getD {b : List Byte} {i : Nat} (h : i < b.length) : b[i]? = some (b.getD i 0) := by
  rw [List.getD_eq_getElem _ _ h, List.getElem?_eq_getElem h]

/-- R282: the bytes of two draws in a row are those of one draw. -/
theorem Rng.bytes_add (oracle : Nat → List Byte × List Byte) (g : Rng) (m n : Nat) :
    g.bytes oracle (m + n) =
      ((g.bytes oracle m).1 ++ ((g.bytes oracle m).2.bytes oracle n).1, ((g.bytes oracle m).2.bytes oracle n).2) := by
  induction m generalizing g with
  | zero => rw [Nat.zero_add]; rfl
  | succ m ih => rw [Nat.succ_add, Rng.bytes, ih, Rng.bytes, List.cons_append]

end

/-- Settles O53: a byte comes from the buffer as it stands or as the refill leaves it, and draws follow one another. -/
theorem generatorStream : Obligations.GeneratorStream := by
  intro oracle g hg
  refine ⟨fun hunread => ?_, fun hused => ?_, g.bytes_add oracle⟩
  · exact ⟨_, getElem?_eq_some_getD (hg.rbuf_length.symm ▸ hunread), Rng.byte_of_unread hunread⟩
  · obtain ⟨pool, left, ent, hpool, hrefill⟩ := g.refill_eq_refillFrom oracle
    refine ⟨pool, left, ent, _, _, _, hpool, rfl, rfl, getElem?_eq_some_getD (by simp), ?_⟩
    rw [Rng.byte_of_used hused, hrefill, Rng.refillFrom]

end Sys2Proof.Machine
end

section
/-! # The generator's commands

What each command of the generator comes to past its checks (R275 to R281). -/

namespace Sys2Proof.Machine

/-! ## The bound -/

/-- The mask takes the sign bit off before the modulus (R279). -/
theorem boundedDraw_toNat (x b : Word) : (boundedDraw x b).toNat = x.toNat % 2 ^ 31 % b.toNat := by
  rw [boundedDraw, BitVec.toNat_umod, BitVec.toNat_and, ← Nat.and_two_pow_sub_one_eq_mod]
  rfl

/-- The check of RNG_BOUND on its bound, read as a number (R279). -/
theorem boundRefused_iff (b : Word) : b = 0 ∨ b.toNat > 0x7FFFFFFF ↔ b.toNat = 0 ∨ 0x7FFFFFFF < b.toNat :=
  or_congr_left (BitVec.toNat_eq (x := b) (y := 0))

/-! ## Past the checks -/

/-- A drawing command that ends in RESULT0 has moved the generator on and changed nothing else but ERRCODE. -/
theorem succeed_afterDraw_setResult0 (s : State) (n : Nat) (x : Word) :
    succeed ((s.afterDraw n).setResult0 x) = .next { s with rng := rngAfter s n, result0 := x, errcode := .ok } := rfl

/-- The same of a command that ends in RESULT0 and RESULT1. -/
theorem succeed_afterDraw_setResult1 (s : State) (n : Nat) (x y : Word) :
    succeed (((s.afterDraw n).setResult0 x).setResult1 y) =
      .next { s with rng := rngAfter s n, result0 := x, result1 := y, errcode := .ok } := rfl

section
variable {s : State} (hl : s.stfail = false)
include hl

theorem exec_rngBytes_of_passed (hdst : s.inBounds s.dst s.len.toNat) :
    exec .rngBytes s = succeed ((s.afterDraw s.len.toNat).write s.dst.toNat (s.drawn s.len.toNat)) := by
  change execRngBytes s = _
  rw [execRngBytes, unlocked_of_passed hl, if_neg (not_not.2 hdst)]

theorem exec_rngByte_of_unlocked :
    exec .rngByte s = succeed ((s.afterDraw 1).setResult0 (((s.drawn 1).getD 0 0).setWidth 32)) := by
  change execRngByte s = _
  rw [execRngByte, unlocked_of_passed hl]

theorem exec_rngInt_of_unlocked : exec .rngInt s = succeed ((s.afterDraw 4).setResult0 (le32 (s.drawn 4))) := by
  change execRngInt s = _
  rw [execRngInt, unlocked_of_passed hl]

theorem exec_rngLong_of_unlocked :
    exec .rngLong s = succeed (((s.afterDraw 8).setResult0 (le32 (slice (s.drawn 8) 0 4))).setResult1
      (le32 (slice (s.drawn 8) 4 4))) := by
  have hhigh : slice (s.drawn 8) 4 4 = (s.drawn 8).drop 4 := List.take_of_length_le (by simp)
  change execRngLong s = _
  rw [execRngLong, unlocked_of_passed hl, hhigh, slice, List.drop_zero]

theorem exec_rngBound_of_passed (hb : ¬(s.arg0.toNat = 0 ∨ 0x7FFFFFFF < s.arg0.toNat)) :
    exec .rngBound s = succeed ((s.afterDraw 4).setResult0 (boundedDraw (le32 (s.drawn 4)) s.arg0)) := by
  change execRngBound s = _
  rw [execRngBound, unlocked_of_passed hl, if_neg (mt (boundRefused_iff _).1 hb)]

theorem exec_rngBound_of_refused (hb : s.arg0.toNat = 0 ∨ 0x7FFFFFFF < s.arg0.toNat) :
    exec .rngBound s = raise .invalidParameter s := by
  change execRngBound s = _
  rw [execRngBound, unlocked_of_passed hl, if_pos ((boundRefused_iff _).2 hb)]

theorem exec_rngSeed_of_passed {seed : List Byte} (hmax : s.len.toNat ≤ Config.rngSeedMax)
    (hsrc : s.inBounds s.src s.len.toNat) (hseed : s.mem.readBytes s.src.toNat s.len.toNat = some seed) :
    exec .rngSeed s = succeed (s.setRng { s.rng with rseed := seed, rleft := 0 }) := by
  change execRngSeed s = _
  rw [execRngSeed, unlocked_of_passed hl, if_neg (Nat.not_lt.2 hmax), if_neg (not_not.2 hsrc), withBytes_of_some hseed]

theorem exec_rngCycle_of_ne_zero (h0 : s.arg0 ≠ 0) :
    exec .rngCycle s = succeed (s.setRng { s.rng with rcycle := s.arg0, rleft := 0 }) := by
  change execRngCycle s = _
  rw [execRngCycle, unlocked_of_passed hl, if_neg h0]

theorem exec_rngCycle_of_zero (h0 : s.arg0 = 0) : exec .rngCycle s = raise .invalidParameter s := by
  change execRngCycle s = _
  rw [execRngCycle, unlocked_of_passed hl, if_pos h0]

end

/-! ## The statements -/

/-- Settles O50: past its checks a drawing command puts the drawn bytes in one place and moves the generator on. -/
theorem rngDrawEffect : Obligations.RngDrawEffect := by
  intro s hl
  refine ⟨fun hdst => ?_, ?_, ?_, ?_⟩
  · exact ⟨_, exec_rngBytes_of_passed hl hdst, rfl, s.drawn_length _, wrote_of_mem_eq rfl⟩
  · obtain ⟨b, hb⟩ := List.length_eq_one_iff.1 (s.drawn_length 1)
    refine ⟨b, hb, ?_⟩
    rw [exec_rngByte_of_unlocked hl, hb, List.getD_cons_zero, succeed_afterDraw_setResult0]
  · rw [exec_rngInt_of_unlocked hl, succeed_afterDraw_setResult0, drawn_eq_drawnBytes]
  · rw [exec_rngLong_of_unlocked hl, succeed_afterDraw_setResult1, drawn_eq_drawnBytes]

/-- Settles O51: a bound that passes the check is not zero, so the remainder is below it. -/
theorem rngBoundEffect : Obligations.RngBoundEffect := by
  intro s hl
  refine ⟨fun hpos hmax => ?_, exec_rngBound_of_refused hl⟩
  have hr := boundedDraw_toNat (le32 (drawnBytes s 4)) s.arg0
  refine ⟨_, ?_, hr, hr ▸ Nat.mod_lt _ hpos⟩
  rw [exec_rngBound_of_passed hl (by omega), succeed_afterDraw_setResult0, drawn_eq_drawnBytes]

/-- Settles O52: past its checks each command sets its own field and leaves no refill, and nothing else. -/
theorem rngSetupEffect : Obligations.RngSetupEffect := fun _ hl =>
  ⟨fun _ hmax hsrc hseed => exec_rngSeed_of_passed hl hmax hsrc hseed, exec_rngCycle_of_ne_zero hl,
    exec_rngCycle_of_zero hl⟩

end Sys2Proof.Machine
end

section
/-! # The order of the checks

Safety.lean lists the checks of each command from the table of R303, apart from the meanings. `DecidedBy s gs r` says
that the outcome `r` is the one that the list `gs` calls for; a rule for each kind of entry ties it to the operation of
the meanings that makes the check, and each command is then walked through its list once. -/

namespace Sys2Proof.Machine

/-- The outcome `r` of a command in `s` is what the verdict calls for. -/
def Verdict.Gives (s : State) (r : Res) : Verdict → Prop
  | .raises e => r = raise e s
  | .unreadable => r = .refused .unwrittenDmem
  | .passes => ∃ u, r = succeed u

/-- The first entry of `gs` that stops the command decides its outcome `r` (R303). -/
def DecidedBy (s : State) (gs : List Gate) (r : Res) : Prop := (verdict s gs).Gives s r

/-! ## One rule for each kind of entry -/

section
variable {s u : State} {gs : List Gate} {r k : Res} {e : ErrCode} {b : Bool}

theorem DecidedBy.success : DecidedBy s [] (succeed u) := ⟨u, rfl⟩

theorem DecidedBy.stop (hb : b = true) : DecidedBy s (.fails b e :: gs) (raise e s) := by
  subst hb
  exact rfl

theorem DecidedBy.skip (hb : b = false) (h : DecidedBy s gs r) : DecidedBy s (.fails b e :: gs) r := by
  subst hb
  exact h

theorem DecidedBy.check {p : Prop} [Decidable p] (hb : b = true ↔ p) (h : DecidedBy s gs k) :
    DecidedBy s (.fails b e :: gs) (if p then raise e s else k) := by
  split
  case isTrue hp => exact .stop (hb.2 hp)
  case isFalse hp => exact .skip (Bool.eq_false_iff.2 (mt hb.1 hp)) h

theorem DecidedBy.bounds {a : Word} {n : Nat} (h : DecidedBy s gs k) :
    DecidedBy s (boundsGate s a n :: gs) (if ¬s.inBounds a n then raise .outOfBounds s else k) :=
  .check (by simp) h

theorem DecidedBy.withBytes {a n : Nat} {k : List Byte → Res}
    (h : ∀ bs, s.mem.readBytes a n = some bs → DecidedBy s gs (k bs)) :
    DecidedBy s (.needs a n :: gs) (withBytes s a n k) := by
  unfold DecidedBy verdict
  cases hm : s.mem.readBytes a n with
  | none => exact withBytes_of_none hm
  | some bs => exact withBytes_of_some hm ▸ h bs hm

theorem DecidedBy.unlocked {i : Instr} (he : Instr.exempt i = false) (h : DecidedBy s gs k) :
    DecidedBy s (.fails (s.stfail && !Instr.exempt i) .selfTestFailed :: gs) (unlocked s k) :=
  .check (by simp [he]) h

theorem DecidedBy.withCtx {c : CtxIx} {k : CipherCtx → Res} (h : DecidedBy s gs (k (s.ctxAt c))) :
    DecidedBy s (.fails (decide (s.nctx ≤ c.toNat)) .badContext :: gs) (withCtx c s k) := by
  cases hx : s.ctx[c.toNat]? with
  | none => exact withCtx_of_none hx ▸ .stop (decide_eq_true (List.getElem?_eq_none_iff.1 hx))
  | some x =>
    have hat : s.ctxAt c = x := by simp [State.ctxAt, hx]
    obtain ⟨hlt, -⟩ := List.getElem?_eq_some_iff.1 hx
    exact withCtx_of_some hx ▸ .skip (decide_eq_false (Nat.not_le.2 hlt)) (hat ▸ h)

theorem DecidedBy.withHctx {c : CtxIx} {k : HmacCtx → Res} (h : DecidedBy s gs (k (s.hctxAt c))) :
    DecidedBy s (.fails (decide (s.nhctx ≤ c.toNat)) .badContext :: gs) (withHctx c s k) := by
  cases hy : s.hctx[c.toNat]? with
  | none => exact withHctx_of_none hy ▸ .stop (decide_eq_true (List.getElem?_eq_none_iff.1 hy))
  | some y =>
    have hat : s.hctxAt c = y := by simp [State.hctxAt, hy]
    obtain ⟨hlt, -⟩ := List.getElem?_eq_some_iff.1 hy
    exact withHctx_of_some hy ▸ .skip (decide_eq_false (Nat.not_le.2 hlt)) (hat ▸ h)

/-- The HMAC context that a codec command with the fields U and H is given past its common checks. -/
def codecOperand (u : Bool) (h : CtxIx) (s : State) : Option HmacCtx := if u then some (s.hctxAt h) else none

/-- `HmacCheck(H)` of R225. -/
theorem DecidedBy.hmacCheck {u : Bool} {h : CtxIx} (hk : DecidedBy s gs k) :
    DecidedBy s (hmacGate u h s :: gs) (if hmacReady (codecOperand u h s) = false then raise .stateError s else k) :=
  .check (by cases u <;> simp [codecOperand, hmacReady]) hk

end

/-! ## The common checks -/

section
variable {s : State} {i : Instr}

/-- The common checks of a command that uses neither C nor H. -/
theorem DecidedBy.plainCommand {k : Res} (hw : i.wellFormed = true) (he : Instr.exempt i = false)
    (hc : Instr.cipherIx i = none) (hh : Instr.hmacIx i = none) (h : DecidedBy s (ownGates i s) k) :
    DecidedBy s (gates i s) (Machine.unlocked s k) := by
  rw [gates, commonGates, hw, hc, hh]
  exact .skip rfl <| .unlocked he <| .skip rfl <| .skip rfl h

/-- The common checks of a command that uses C. -/
theorem DecidedBy.cipherCommand {c : CtxIx} {k : CipherCtx → Res} (hw : i.wellFormed = true)
    (he : Instr.exempt i = false) (hc : Instr.cipherIx i = some c) (hh : Instr.hmacIx i = none)
    (h : DecidedBy s (ownGates i s) (k (s.ctxAt c))) :
    DecidedBy s (gates i s) (Machine.unlocked s (Machine.withCtx c s k)) := by
  rw [gates, commonGates, hw, hc, hh]
  exact .skip rfl <| .unlocked he <| .withCtx <| .skip rfl h

/-- The common checks of an HMAC command. -/
theorem DecidedBy.hmacCommand {c : CtxIx} {k : HmacCtx → Res} (hw : i.wellFormed = true) (he : Instr.exempt i = false)
    (hc : Instr.cipherIx i = none) (hh : Instr.hmacIx i = some c) (h : DecidedBy s (ownGates i s) (k (s.hctxAt c))) :
    DecidedBy s (gates i s) (Machine.unlocked s (Machine.withHctx c s k)) := by
  rw [gates, commonGates, hw, hc, hh]
  exact .skip rfl <| .unlocked he <| .skip rfl <| .withHctx h

/-- The common checks of a codec command with the fields U and H. -/
theorem DecidedBy.codecCommand {u : Bool} {c : CtxIx} {k : Option HmacCtx → Res} (hw : i.wellFormed = hmacFieldsOk u c)
    (he : Instr.exempt i = false) (hc : Instr.cipherIx i = none) (hh : Instr.hmacIx i = if u then some c else none)
    (h : DecidedBy s (ownGates i s) (k (codecOperand u c s))) : DecidedBy s (gates i s) (codecChecks u c s k) := by
  rw [gates, commonGates, hw, hc, hh]
  refine .check (by simp) <| .unlocked he <| .skip rfl ?_
  cases u with
  | true => exact .withHctx h
  | false => exact .skip rfl h

/-- The checks of a data command (R173). -/
theorem DecidedBy.dataCommand {c : CtxIx} {mode : Chain} {d : Dir} {f : CipherCtx → List Byte → State}
    (hw : i.wellFormed = true) (he : Instr.exempt i = false) (hc : Instr.cipherIx i = some c)
    (hh : Instr.hmacIx i = none) (ho : ownGates i s = dataGates c mode d s) :
    DecidedBy s (gates i s) (dataChecks c mode d s fun x p => succeed (f x p)) := by
  refine .cipherCommand hw he hc hh ?_
  rw [ho]
  exact .check (by simp) <| .check (by simp [BitVec.toNat_eq]) <| .bounds <| .bounds <| .check (by simp) <|
    .check (by simp [and_assoc]) <| .withBytes fun _ _ => .success

/-- The checks of CBC_INIT and CFB_INIT: with Z = 1 the vector is not read (R170, R171). -/
theorem DecidedBy.chainInitCommand {c : CtxIx} {z : Bool} {mode : Chain} (hw : i.wellFormed = true)
    (he : Instr.exempt i = false) (hc : Instr.cipherIx i = some c) (hh : Instr.hmacIx i = none)
    (ho : ownGates i s = ownGates (.cbcInit c z) s) : DecidedBy s (gates i s) (chainInit c z mode s) := by
  refine .cipherCommand hw he hc hh ?_
  rw [ho]
  refine .check (by simp) ?_
  cases z with
  | true => exact .success
  | false => exact .bounds <| .withBytes fun _ _ => .success

end

/-! ## The commands -/

section
variable (s : State)

/-- The key lengths that BF_KEY refuses, as R303 and as its meaning write them (R116). -/
theorem bfKeyLength_refused_iff (n : Word) :
    (n == 0 || decide (56 < n.toNat)) = true ↔ ¬(1 ≤ n.toNat ∧ n.toNat ≤ Config.bfKeyMax) := by
  simp only [Bool.or_eq_true, beq_iff_eq, decide_eq_true_eq, Config.bfKeyMax]
  bv_omega

theorem execBfKey_decided (c : CtxIx) : DecidedBy s (gates (.bfKey c) s) (execBfKey c s) :=
  .cipherCommand rfl rfl rfl rfl <| .check (bfKeyLength_refused_iff s.len) <| .bounds <|
    .withBytes fun _ _ => .success

theorem execTfKey_decided (c : CtxIx) : DecidedBy s (gates (.tfKey c) s) (execTfKey c s) :=
  .cipherCommand rfl rfl rfl rfl <| .check (by simp [BitVec.toNat_eq, Config.tfKeyLens, and_assoc]) <| .bounds <|
    .withBytes fun _ _ => .success

theorem execBfWeakchk_decided (c : CtxIx) : DecidedBy s (gates (.bfWeakchk c) s) (execBfWeakchk c s) :=
  .cipherCommand rfl rfl rfl rfl <| by
    simp only [ownGates]
    cases (s.ctxAt c).alg with
    | none => exact .stop rfl
    | tf => exact .skip rfl <| .stop rfl
    | bf => exact .skip rfl <| .skip rfl .success

theorem execKdf_decided : DecidedBy s (gates .kdf s) (execKdf s) :=
  .plainCommand rfl rfl rfl rfl <| .check (by simp [Config.iterMin]) <| .bounds <| .bounds <| .bounds <|
    .withBytes fun _ _ => .withBytes fun _ _ => .success

theorem execHmacInit_decided (h : CtxIx) : DecidedBy s (gates (.hmacInit h) s) (execHmacInit h s) :=
  .hmacCommand rfl rfl rfl rfl <| .check (by simp [Config.hmacSeedMax]) <| .bounds <| .withBytes fun _ _ => .success

theorem execHmacUpdate_decided (h : CtxIx) : DecidedBy s (gates (.hmacUpdate h) s) (execHmacUpdate h s) :=
  .hmacCommand rfl rfl rfl rfl <| .bounds <| .check (by simp) <| .withBytes fun _ _ => .success

theorem execHmacDigest_decided (h : CtxIx) : DecidedBy s (gates (.hmacDigest h) s) (execHmacDigest h s) :=
  .hmacCommand rfl rfl rfl rfl <| .bounds <| .check (by simp) .success

theorem execBlkPad_decided (v : Format) (u : Bool) (h : CtxIx) :
    DecidedBy s (gates (.blkPad v u h) s) (execBlkPad v u h s) :=
  .codecCommand rfl rfl rfl rfl <| .bounds <| .bounds <| .hmacCheck <| .withBytes fun _ _ => .success

theorem execFieldEnc_decided (v : Format) (u : Bool) (h : CtxIx) :
    DecidedBy s (gates (.fieldEnc v u h) s) (execFieldEnc v u h s) :=
  .codecCommand rfl rfl rfl rfl <| .check (by simp) <| .check (by simp) <| .check (by simp [BitVec.toNat_eq]) <|
    .bounds <| .bounds <| .hmacCheck <| .withBytes fun _ _ => .success

/-- The checks after the consumption speak of the length that the wire just read declares. -/
theorem execFieldDec_decided (v : Format) (u : Bool) (h : CtxIx) :
    DecidedBy s (gates (.fieldDec v u h) s) (execFieldDec v u h s) :=
  .codecCommand rfl rfl rfl rfl <| .bounds <| .hmacCheck <| .check (by simp) <| .withBytes fun _ hw => by
    rw [State.declaredLen_of_readBytes hw]
    exact .check (by simp) <| .bounds .success

theorem execRngSeed_decided : DecidedBy s (gates .rngSeed s) (execRngSeed s) :=
  .plainCommand rfl rfl rfl rfl <| .check (by simp [Config.rngSeedMax]) <| .bounds <| .withBytes fun _ _ => .success

/-- The list of checks of each command decides its outcome (R303). -/
theorem exec_decided (i : Instr) : DecidedBy s (gates i s) (exec i s) := by
  cases i with
  | nop => exact .skip rfl <| .skip (Bool.and_false _) <| .skip rfl <| .skip rfl .success
  | ctxClear c => exact .skip rfl <| .skip (Bool.and_false _) <| .withCtx <| .skip rfl .success
  | hctxClear h => exact .skip rfl <| .skip (Bool.and_false _) <| .skip rfl <| .withHctx .success
  | bfKey c => exact execBfKey_decided s c
  | tfKey c => exact execTfKey_decided s c
  | cbcInit | cfbInit => exact .chainInitCommand rfl rfl rfl rfl rfl
  | bfWeakchk c => exact execBfWeakchk_decided s c
  | ecbEnc | ecbDec | cbcEnc | cbcDec | cfbEnc | cfbDec => exact .dataCommand rfl rfl rfl rfl rfl
  | sha256 => exact .plainCommand rfl rfl rfl rfl <| .bounds <| .bounds <| .withBytes fun _ _ => .success
  | kdf => exact execKdf_decided s
  | hmacInit h => exact execHmacInit_decided s h
  | hmacUpdate h => exact execHmacUpdate_decided s h
  | hmacDigest h => exact execHmacDigest_decided s h
  | blkPad v u h => exact execBlkPad_decided s v u h
  | fieldEnc v u h => exact execFieldEnc_decided s v u h
  | fieldDec v u h => exact execFieldDec_decided s v u h
  | fieldCount | rngByte | rngInt | rngLong => exact .plainCommand rfl rfl rfl rfl .success
  | fieldTerm | rngBytes => exact .plainCommand rfl rfl rfl rfl <| .bounds .success
  | rngBound => exact .plainCommand rfl rfl rfl rfl <| .check (by simp) .success
  | rngSeed => exact execRngSeed_decided s
  | rngCycle => exact .plainCommand rfl rfl rfl rfl <| .check (by simp) .success

end

/-- Settles O20: the list of checks decides every command, and a completion ends in OK. -/
theorem firstFailingCheckDecides : Obligations.FirstFailingCheckDecides := by
  intro i s
  have h : (verdict s (gates i s)).Gives s (exec i s) := exec_decided s i
  generalize verdict s (gates i s) = v at h ⊢
  cases v with
  | raises e => exact h
  | unreadable => exact h
  | passes =>
    obtain ⟨u, hu⟩ := h
    exact ⟨u.okStatus, hu, rfl⟩

end Sys2Proof.Machine
end

section
/-! # STATUS

How the end of a command and the host's accesses change STATUS (R24, R302, R304): a command keeps STFAIL and clears no
ERRSEEN, and of the host's accesses only the write of STATUS and the reset do otherwise. -/

namespace Sys2Proof.Machine

variable {i : Instr} {s t u : State}

/-- From `s` to `t` STFAIL stays and ERRSEEN is not cleared. -/
structure FlagsKept (s t : State) : Prop where
  stfail : t.stfail = s.stfail
  errseen : s.errseen = true → t.errseen = true

theorem FlagsKept.of_eq (hf : t.stfail = s.stfail) (he : t.errseen = s.errseen) : FlagsKept s t := ⟨hf, he.trans⟩

/-! ## Commands -/

@[simp] theorem hmacAbsorb_errseen (h : CtxIx) (y : Option HmacCtx) (d : List Byte) (s : State) :
    (hmacAbsorb h y d s).errseen = s.errseen := by cases y <;> rfl

/-- A completion leaves ERRSEEN as it was (R302). -/
theorem Completes.errseen_eq (h : Completes s i u) : u.errseen = s.errseen := by cases h <;> simp

theorem exec_flagsKept (h : exec i s = .next t) : FlagsKept s t := by
  rcases exec_ends s i t h with ⟨e, -, rfl⟩ | ⟨u, hu, rfl⟩
  · exact ⟨rfl, fun _ => rfl⟩
  · obtain ⟨-, -, -, -, -, -, -, hf, -⟩ := hu.operands_kept
    exact .of_eq hf hu.errseen_eq

theorem runCommand_flagsKept {w : Word} (h : runCommand w s = .next t) : FlagsKept s t := by
  cases hd : decode w with
  | error r =>
    obtain rfl := raise_eq_next.1 (runCommand_of_error hd s ▸ h)
    exact ⟨rfl, fun _ => rfl⟩
  | ok i => exact exec_flagsKept (runCommand_of_ok hd s ▸ h)

/-- While STFAIL = 1 the second check of every command that is not exempt fails, after the decode check (R304). -/
theorem verdict_of_locked (hl : s.stfail = true) (hw : i.wellFormed = true) (he : Instr.exempt i = false) :
    verdict s (gates i s) = .raises .selfTestFailed := by
  simp [gates, commonGates, verdict, hl, hw, he]

theorem exempt_eq_false (hnop : i ≠ .nop) (hctx : ∀ c, i ≠ .ctxClear c) (hhctx : ∀ h, i ≠ .hctxClear h) :
    Instr.exempt i = false := by
  cases i with
  | nop => exact absurd rfl hnop
  | ctxClear c => exact absurd rfl (hctx c)
  | hctxClear h => exact absurd rfl (hhctx h)
  | _ => rfl

theorem exec_of_locked (hl : s.stfail = true) (hw : i.wellFormed = true) (he : Instr.exempt i = false) :
    exec i s = raise .selfTestFailed s := by
  have h : (verdict s (gates i s)).Gives s (exec i s) := exec_decided s i
  rwa [verdict_of_locked hl hw he] at h

/-! ## The host's accesses -/

/-- STATUS stands at one offset of the register map (R26). -/
theorem eq_of_regAt_status {o : Nat} (h : regAt o = .status) : o = 0x1C := by
  unfold regAt at h
  split at h
  case h_8 => rfl
  all_goals cases h

/-- A write of a register other than STATUS keeps STFAIL and clears no ERRSEEN, the write of CMD with the command it runs
included (R23, R24). -/
theorem hostWriteReg_flagsKept {r : Reg} {x : Word} (hr : r ≠ .status) (h : hostWriteReg r x s = .next t) :
    FlagsKept s t := by
  cases r with
  | cmd =>
    obtain ⟨hf, he⟩ := runCommand_flagsKept h
    exact ⟨hf, he⟩
  | status => exact absurd rfl hr
  | _ =>
    obtain rfl := Host.Outcome.next.inj h
    exact .of_eq rfl rfl

/-- An access that the port serves, and otherwise answers with a bus error (R66, R67). -/
theorem served_eq_next {p : Prop} [Decidable p] {r : Res} {f : Fault} :
    (if p then r else .fault f) = .next t ↔ p ∧ r = .next t := by split <;> simp [*]

/-- A step keeps STFAIL and clears no ERRSEEN, unless it is a write of STATUS or a reset (R24, R302, R304). -/
theorem step_flags (h : step s = .next t) :
    FlagsKept s t ∨ (∃ x rest, s.port = .writeReg .w32 0x1C x :: rest ∧ t = { s with port := rest }.writeStatus x) ∨
      ∃ p rest, s.port = .reset p :: rest := by
  cases hp : s.port with
  | nil =>
    obtain rfl := Host.Outcome.next.inj ((step_idle hp).symm.trans h)
    exact .inl (.of_eq rfl rfl)
  | cons op rest =>
    rw [step_cons hp] at h
    cases op with
    | readReg w o =>
      obtain ⟨-, h⟩ := served_eq_next.1 h
      obtain rfl := Host.Outcome.next.inj h
      exact .inl (.of_eq rfl rfl)
    | writeReg w o x =>
      obtain ⟨⟨rfl, -⟩, hwrite⟩ := served_eq_next.1 h
      by_cases hr : regAt o = .status
      · obtain rfl := eq_of_regAt_status hr
        exact .inr (.inl ⟨x, rest, rfl, (Host.Outcome.next.inj hwrite).symm⟩)
      · obtain ⟨hf, he⟩ := hostWriteReg_flagsKept hr hwrite
        exact .inl ⟨hf, he⟩
    | readMem w a =>
      obtain ⟨-, h⟩ := served_eq_next.1 h
      split at h
      · cases h
      · obtain rfl := Host.Outcome.next.inj h
        exact .inl (.of_eq rfl rfl)
    | writeMem w a x =>
      obtain ⟨-, h⟩ := served_eq_next.1 h
      obtain rfl := Host.Outcome.next.inj h
      exact .inl (.of_eq rfl rfl)
    | reset pass => exact .inr (.inr ⟨pass, rest, rfl⟩)

/-! ## The statements -/

/-- Settles O21: an error is no OK and changes STATUS alone, a completion is OK and keeps ERRSEEN; and a step that clears
ERRSEEN is a write of STATUS or a reset. -/
theorem statusAtTheEndOfACommand : Obligations.StatusAtTheEndOfACommand := by
  refine ⟨fun i s t h => ?_, fun s t h hs ht => ?_⟩
  · rcases exec_ends s i t h with ⟨e, he, rfl⟩ | ⟨u, hu, rfl⟩
    · exact .inr ⟨he, rfl⟩
    · exact .inl ⟨rfl, rfl, hu.errseen_eq⟩
  · rcases step_flags h with hk | ⟨x, rest, hp, rfl⟩ | ⟨p, rest, hp⟩
    · exact absurd (hk.errseen hs) (Bool.eq_false_iff.1 ht)
    · exact ⟨_, rest, hp, .inl ⟨x, rfl, by simpa [State.writeStatus, hs] using ht⟩⟩
    · exact ⟨_, rest, hp, .inr ⟨p, rfl⟩⟩

/-- Settles O22: a locked command stops at its second check, the exempt ones have no such check, and the write of STATUS,
the one other step with an effect of its own on STATUS, keeps STFAIL. -/
theorem selfTestLock : Obligations.SelfTestLock := by
  refine ⟨fun i s hl hw hnop hctx hhctx => ?_, fun s _ => ⟨?_, fun c hc => ?_, fun c hc => ?_⟩, fun s t h hne => ?_⟩
  · exact exec_of_locked hl hw (exempt_eq_false hnop hctx hhctx)
  · exact ⟨s.okStatus, rfl, rfl⟩
  · exact ⟨_, exec_ctxClear hc, rfl⟩
  · exact ⟨_, exec_hctxClear hc, rfl⟩
  · rcases step_flags h with hk | ⟨x, rest, -, rfl⟩ | hreset
    · exact absurd hk.stfail hne
    · exact absurd rfl hne
    · exact hreset

/-- Settles O29: NOP is the end of a command and nothing before it, and its opcode and fields are 0. -/
theorem nopEffect : Obligations.NopEffect := ⟨fun _ => rfl, by decide, rfl⟩

end Sys2Proof.Machine
end

section
/-! # The platform's reset

The step that serves a reset, and what it leaves in STATUS, in the contexts and in DMEM (R330 to R332). -/

namespace Sys2Proof.Machine

variable {s : State} {rest : List HostOp} {pass : Bool} {n k ent : Nat} {par : Params}

/-- The reset keeps the block's sizes and parameters, and the accesses that wait behind it (R8, R330). -/
theorem step_reset (h : s.port = .reset pass :: rest) :
    step s = .next (State.afterReset s.nctx s.nhctx s.par pass s.rng.ent rest) := step_cons h

/-- ERRCODE after reset reports the verdict that STFAIL holds (R331). -/
theorem State.afterReset_errcode :
    (State.afterReset n k par pass ent rest).errcode.code =
      if (State.afterReset n k par pass ent rest).stfail then 0x0A else 0x00 := by
  cases pass with
  | true => rfl
  | false => rfl

/-- Reset leaves as many cipher contexts as it is told, each at its reset value (R332). -/
theorem State.afterReset_ctx :
    (State.afterReset n k par pass ent rest).ctx.length = n ∧
      ∀ x ∈ (State.afterReset n k par pass ent rest).ctx, x = CipherCtx.reset :=
  ⟨List.length_replicate, fun _ => List.eq_of_mem_replicate⟩

/-- Reset leaves as many HMAC contexts as it is told, each at its reset value (R332). -/
theorem State.afterReset_hctx :
    (State.afterReset n k par pass ent rest).hctx.length = k ∧
      ∀ y ∈ (State.afterReset n k par pass ent rest).hctx, y = HmacCtx.reset :=
  ⟨List.length_replicate, fun _ => List.eq_of_mem_replicate⟩

/-- No byte of DMEM holds a value after reset (R78, R332). -/
theorem State.afterReset_mem_get (a : Nat) : (State.afterReset n k par pass ent rest).mem.get a = none := rfl

/-- Settles O15: the step ends in `State.afterReset`, whose registers and generator are constants and whose contexts are
copies of one reset value. -/
theorem platformReset : Obligations.PlatformReset := by
  intro s rest pass h
  obtain ⟨hcount, hctx⟩ := State.afterReset_ctx (n := s.nctx)
  obtain ⟨hhcount, hhctx⟩ := State.afterReset_hctx (k := s.nhctx)
  exact ⟨_, step_reset h, rfl, rfl, rfl, rfl, rfl, rfl, rfl, rfl, rfl, rfl, rfl, rfl, State.afterReset_errcode,
    hcount, hctx, hhcount, hhctx, rfl, rfl, rfl, rfl, rfl, rfl, rfl, State.afterReset_mem_get, rfl, rfl⟩

end Sys2Proof.Machine
end
